-- ==== Sys2Proof/Word.lean ====
section
/-! DEFINITION. The octet of the serial links, and the sparse table that holds the part's numbered stores. -/

namespace Sys2Proof

/-- One octet, as carried on either link (R132). -/
abbrev Octet := BitVec 8

/-- A numbered store of the part (bins, tallies, slots, channels, counters): the entries that differ from the
store's reset entry, in rising order of their numbers.  `Machine/Table.lean` holds its read, its write and the
canonical form. -/
abbrev Table (α : Type) := List (Nat × α)

end Sys2Proof
end

