-- ==== Sys2Proof/Syntax.lean ====
section
/-! DEFINITION. The commands of the part: one constructor for each row of spec/opcode_table.json. -/

namespace Sys2Proof

/-- The two serial links (chapter 9). -/
inductive Link where
  | field | trunk
deriving DecidableEq, Repr

/-- One octet taken by a receiver: its value, and whether its stop bit came (R133). -/
structure LineOctet where
  value : Octet
  stopBit : Bool
deriving DecidableEq, Repr

/-- What has happened, since the last access, to the stored bits of the record or curve slot that an access
reaches (log entry 3): R6, R7 and R29 speak of one bit in error, of two, of a further bit failing and of a
failing bit recovering.  The bits fail from outside, so a command that makes such an access carries this. -/
inductive Wear where
  /-- No bit has changed. -/
  | steady
  /-- One more bit has failed. -/
  | oneFails
  /-- Two more bits have failed. -/
  | twoFail
  /-- A single failing bit has recovered. -/
  | recovers
deriving DecidableEq, Repr

/-- The commands: the steps of the opcode table, each whole and indivisible.  A management request carries no
operand here, since its step takes the request at the head of the request queue, arguments and all (R143, R144). -/
inductive Instr where
  /-- DEVICE_RESET, with the settings of the STN and SPD straps. -/
  | deviceReset (station : BitVec 4) (speed : BitVec 2)
  /-- FLD_RX_FRAME: the octets that arrive on FLD_RX, those of a complete frame among them. -/
  | fldRxFrame (octets : List LineOctet)
  /-- TRK_RX_FRAME: the octets that arrive on TRK_RX, those of a complete frame among them. -/
  | trkRxFrame (octets : List LineOctet)
  | trunkIngressRoute
  | fieldEgressSend
  | passThroughGrant
  | replySlotGrant
  | refusalSlotGrant
  | conditionNoticeGrant
  | creditOutNotice
  | reportFrame
  | partTimeTick
  | entryDue
  | paceBoundary
  /-- HOLD_TIMER_EXPIRY of one segment. -/
  | holdTimerExpiry (segment : Nat)
  | autoCountdownExpiry
  | holdoffEnd
  | testIntervalExpiry
  | copy
  | handOver
  | eviction
  | takeReleasedEntry
  | recordFetch (wear : Wear)
  | fillComputation (wear : Wear)
  | runWrite (wear : Wear)
  | application (wear : Wear)
  | writeBack (wear : Wear)
  | visit (wear : Wear)
  | staleWrite (wear : Wear)
  | loadGrant (wear : Wear)
  | convertedRead (wear : Wear)
  | binReadAccess (wear : Wear)
  | binScan (wear : Wear)
  | bankExchange
  | restartCarriedOut
  | tableWideClear
  | unknownRequest
  | info
  | timeSet
  | paramSet
  | paramRead
  | binLoad
  | binRead
  | curveLoad
  | curveRead (wear : Wear)
  /-- CURVE_SWAP, with the wear of slots 0, 1, 2, … of the load bank; a slot past the list's end is steady. -/
  | curveSwap (wear : List Wear)
  | zoneRead
  | protect
  | hold
  | release
  | sweepStart
  | sweepSuspend
  | sweepResume
  | sweepRead
  | stop
  | clear
  | channelSet
  | channelClose
  | channelRead
  | credit
  | sync
  | alertSet
  | alertRead
  | alertClear
  | snapshot
  | statsRead
  | testStart
  | testStop
  | testRead
  | restart
  /-- LENGTH_OCTET_ERROR: the length octet that a receiver in state LENGTH takes. -/
  | lengthOctetError (link : Link) (octet : LineOctet)
deriving DecidableEq, Repr

end Sys2Proof
end

