-- ==== Sys2Proof/Decode.lean ====
section
/-! DEFINITION. The command that a word of the opcode table spells. -/

namespace Sys2Proof

/-- No row of spec/opcode_table.json gives its command any bits (every row's "fields" is empty and none has a
match), so no word spells a command.  The octets that the part itself decodes are read in `Machine/Operands.lean`. -/
def decodeTableWord (_nbits _w : Nat) : Option Instr := none

end Sys2Proof
end

