-- ==== Sys2Proof/Config.lean ====
section
/-! DEFINITION. What is fixed for every FL240: the capacities and limits the manual gives, and the one value it
leaves open. -/

namespace Sys2Proof.Config

/-- Entries of the field ingress FIFO (R135). -/
abbrev fieldIngressRoom : Nat := 32
/-- The count of waiting frames at which FIELD-HALF is raised (R135). -/
abbrev fieldHalf : Nat := 16
/-- Entries of the trunk ingress FIFO (R137). -/
abbrev trunkIngressRoom : Nat := 16
/-- Entries of the pass-through queue and of the field egress queue (R139). -/
abbrev foreignRoom : Nat := 16
/-- Entries of the request queue (R143). -/
abbrev requestRoom : Nat := 4
/-- Entries of the Park List (R15). -/
abbrev parkRoom : Nat := 32
/-- Entries of the Recent Arrivals list (R39). -/
abbrev arrivalRoom : Nat := 256
/-- Entries of one report queue (R101). -/
abbrev reportRoom : Nat := 64
/-- Records of one REPORT frame (R108). -/
abbrev recordsPerFrame : Nat := 8
/-- The longest payload of a frame (R132). -/
abbrev payloadMax : Nat := 248
/-- The last bin number (R1). -/
abbrev lastBin : Nat := 4095
/-- Bins of one segment (R1). -/
abbrev segmentSize : Nat := 128
/-- The value at which Part Time stops (R148). -/
abbrev partTimeMax : Nat := 4294967295
/-- The value at which a statistics counter stops (R157). -/
abbrev counterMax : Nat := 4294967295
/-- The value at which a channel's credit stops (R111). -/
abbrev creditMax : Nat := 255
/-- The value at which a channel's lost count stops (R103). -/
abbrev lostMax : Nat := 65535
/-- Seconds of the holdoff after a condition notice (R155). -/
abbrev holdoffStart : Nat := 10
/-- The part identification value that INFO returns (section 12.2). -/
abbrev partIdentification : Nat := 0x4C24

/-- FREE VALUE (log entry 5). The lanes heard and best margin octets of a BIN READ reply for a bin whose
reception is absent: R161 marks the absence by copies 0 and says nothing of these three octets. -/
opaque absentReceptionOctet : Nat → Octet

end Sys2Proof.Config
end

