-- ==== Sys2Proof/Machine/State.lean ====
section
/-! DEFINITION. Everything the manual says the part holds, block by block, and the state after device reset. -/

namespace Sys2Proof.Machine

/-- Why the machine stops with a fault. -/
inductive Fault where
  /-- Raised by FILL_COMPUTATION alone, when the active bank's slot that the fetched record names is absent.
  R31 says that this slot is always present, so the manual gives the case no effect; no run from reset meets it.
  Safe: the model stops where the manual says nothing. -/
  | curveAbsent
deriving DecidableEq, Repr

/-- Why the machine refuses a command. -/
inductive Refusal where
  /-- The command has no meaning yet. No arm of `exec` answers so. Safe: the model stops. -/
  | notModelled (mnemonic : String)
deriving DecidableEq, Repr

/-! ## The Bin Table (chapter 1) -/

/-- Kind of a bin (section 1.2). -/
inductive BinKind where
  | litter | glass
deriving DecidableEq, Repr

/-- Service state of a bin (section 1.3). -/
inductive Service where
  | off | active | fault
deriving DecidableEq, Repr

/-- Level of a bin (section 1.3). -/
inductive Level where
  | unheard | low | near | full
deriving DecidableEq, Repr

/-- The seven notice kinds (R82). -/
inductive NoticeKind where
  | full | emptied | stale | back | fallen | upright | fault
deriving DecidableEq, Repr

/-- The loaded fields of a Bin Record (R2). -/
structure BinRecord where
  inService : Bool
  tag : Nat
  kind : BinKind
  testBin : Bool
  zone : Nat
  curve : Nat
  emptyDepth : Nat
  capacity : Nat
  warn : Nat
  collect : Nat
  hysteresis : Nat
  weight : Nat
  silenceLimit : Option Nat
  /-- Bit n stands for the notice kind of octet bit n in section 12.3: FULL, EMPTIED, STALE, BACK, FALLEN, UPRIGHT. -/
  selection : BitVec 6
deriving DecidableEq, Repr

/-- The reset record (R2). -/
def BinRecord.reset : BinRecord where
  inService := false
  tag := 0
  kind := .litter
  testBin := false
  zone := 0
  curve := 0
  emptyDepth := 1000
  capacity := 100
  warn := 600
  collect := 800
  hysteresis := 50
  weight := 4
  silenceLimit := none
  selection := 0

/-- A reception record (section 1.3): bit n of `lanes` stands for lane n. -/
structure Reception where
  lanes : BitVec 9
  margin : Int
  copies : Nat
deriving DecidableEq, Repr

/-- The Fill State of a bin (section 1.3). -/
structure FillState where
  service : Service
  level : Level
  stale : Bool
  fallen : Bool
  filtered : Option Nat
  lastRaw : Option Nat
  lastSequence : Option Nat
  outOfOrderRun : Nat
  gapCount : Nat
  lastHeard : Nat
  lastEmptied : Option Nat
  reception : Option Reception
  countedZone : Option Nat
  countedLitres : Nat
deriving DecidableEq, Repr

/-- The reset form of a Fill State (R4). -/
def FillState.reset : FillState where
  service := .off
  level := .unheard
  stale := false
  fallen := false
  filtered := none
  lastRaw := none
  lastSequence := none
  outOfOrderRun := 0
  gapCount := 0
  lastHeard := 0
  lastEmptied := none
  reception := none
  countedZone := none
  countedLitres := 0

/-- One bin: its record with the load generation kept beside it (R3), the repair mark (R7), how many bits of the
stored record are in error (R6: 0, 1, or 2 for an uncorrectable record), and its Fill State. -/
structure Bin where
  record : BinRecord
  generation : Nat
  repair : Bool
  badBits : Nat
  fill : FillState
deriving DecidableEq, Repr

/-- A bin after device reset (R25). -/
def Bin.reset : Bin where
  record := BinRecord.reset
  generation := 0
  repair := false
  badBits := 0
  fill := FillState.reset

/-- The content of one SENSOR frame: one reading (section 12.1, R15). -/
structure Reading where
  bin : Nat
  tag : Nat
  sequence : Nat
  tilt : Bool
  lidOpen : Bool
  temperature : Int
  lane : Nat
  margin : Int
  echoes : List Nat
deriving DecidableEq, Repr

/-- One entry of the Park List (R15). -/
structure Parked where
  reading : Reading
  arrival : Nat
  released : Bool
deriving DecidableEq, Repr

/-- The four requesters of the table port, in the cyclic order (R10). -/
inductive Requester where
  | readingUnit | arrivalFilter | sweepEngine | managementUnit
deriving DecidableEq, Repr

/-- The Bin Table (R25). -/
structure BinTable where
  bins : Table Bin
  /-- Bit s stands for segment s (R11). -/
  protectedSegments : BitVec 32
  /-- The held segments in rising order, each with its timer's remaining seconds (R12).  A timer at 0 has
  reached its end at a tick and waits for its expiry step (log entry 8). -/
  held : Table Nat
  park : List Parked
  lastGrant : Requester
deriving DecidableEq, Repr

/-! ## The Curve Store (chapter 2) -/

/-- One point of a curve (R26). -/
structure Point where
  height : Nat
  fill : Nat
deriving DecidableEq, Repr

/-- One curve slot: its points (none for an absent slot), how many of its stored bits are in error, and its
damage mark (R26, R29). -/
structure Slot where
  points : List Point
  badBits : Nat
  damaged : Bool
deriving DecidableEq, Repr

/-- An absent slot with a good check and the damage mark clear (R28). -/
def Slot.absent : Slot where
  points := []
  badBits := 0
  damaged := false

/-- The two banks (R28). -/
inductive Bank where
  | a | b
deriving DecidableEq, Repr

/-- The Curve Store (R28). -/
structure CurveStore where
  bankA : Table Slot
  bankB : Table Slot
  active : Bank
deriving DecidableEq, Repr

/-! ## The Arrival Filter and the Reading Unit (chapters 3 and 4) -/

/-- One entry of the Recent Arrivals list (R39).  `generation` is present exactly when the entry is applied.
`due` is what the test of R42 found at the last tick. -/
structure Arrival where
  bin : Nat
  sequence : Nat
  firstArrival : Nat
  lanes : BitVec 9
  margin : Int
  copies : Nat
  generation : Option Nat
  due : Bool
deriving DecidableEq, Repr

/-- Why the head entry is retiring (R41, R42). -/
inductive Retirement where
  | expiry | eviction
deriving DecidableEq, Repr

/-- The Arrival Filter: the Recent Arrivals list, oldest at the head, and the retirement of the head entry whose
write-back is pending at the table port (R43). -/
structure ArrivalFilter where
  entries : List Arrival
  retiring : Option Retirement
deriving DecidableEq, Repr

/-- Where the Reading Unit took its reading from (R45). -/
inductive Source where
  | arrivals | parkList
deriving DecidableEq, Repr

/-- The reading that the Reading Unit holds, with its arrival time and its source (R45). -/
structure Taken where
  reading : Reading
  arrival : Nat
  source : Source
deriving DecidableEq, Repr

/-- A reading accepted by the sequence check: what the record fetch kept (R46), and what R50 or R51 decided. -/
structure Accepted where
  taken : Taken
  record : BinRecord
  fill : FillState
  generation : Nat
  gapCount : Nat
  gapGain : Nat
  sensorRestart : Bool
deriving DecidableEq, Repr

/-- The hold causes (R58). -/
inductive HoldCause where
  | tilt | lid | blind | curve
deriving DecidableEq, Repr

/-- A fill result (R57): HELD with its cause, or COMPUTED with raw, new filtered, emptying and litres. -/
inductive FillResult where
  | held (cause : HoldCause)
  | computed (raw filtered : Nat) (emptying : Bool) (litres : Nat)
deriving DecidableEq, Repr

/-- The Reading Unit (section 3.2).  `runWrite` is the wait of R51 for the run write of an out-of-order drop. -/
inductive ReadingUnit where
  | idle
  | fetch (taken : Taken)
  | runWrite (taken : Taken) (generation run : Nat)
  | compute (accepted : Accepted)
  | apply (accepted : Accepted) (result : FillResult)
deriving DecidableEq, Repr

/-! ## The Zone Tally Unit (chapter 6) -/

/-- One Zone Tally (R89). -/
structure Tally where
  members : Nat
  full : Nat
  near : Nat
  stale : Nat
  fallen : Nat
  fault : Nat
  litres : Nat
  reference : Nat
deriving DecidableEq, Repr

/-- A tally after device reset (R98). -/
def Tally.zero : Tally where
  members := 0
  full := 0
  near := 0
  stale := 0
  fallen := 0
  fault := 0
  litres := 0
  reference := 0

/-! ## The Report Unit (chapter 7) -/

/-- A bin notice, frozen when it is made (R82). -/
structure Notice where
  notice : NoticeKind
  bin : Nat
  zone : Nat
  kind : Option BinKind
  filtered : Option Nat
  level : Level
  stale : Bool
  fallen : Bool
  partTime : Nat
  test : Bool
deriving DecidableEq, Repr

/-- What a report queue entry is (R101). -/
inductive Item where
  | summary (zone : Nat)
  | notice (notice : Notice)
deriving DecidableEq, Repr

/-- A report queue entry with its due mark, which stays no in a PROMPT channel (R101). -/
structure Entry where
  item : Item
  due : Bool
deriving DecidableEq, Repr

/-- Channel states (R100). -/
inductive ChannelState where
  | closed | opened | starved
deriving DecidableEq, Repr

/-- Channel modes (R100). -/
inductive ChannelMode where
  | prompt | paced
deriving DecidableEq, Repr

/-- A CREDIT-OUT notice, frozen at the exhaustion (R110). -/
structure CreditOut where
  destination : Nat
  channel : Nat
  partTime : Nat
  queueLength : Nat
  lost : Nat
deriving DecidableEq, Repr

/-- One Planner Channel (R100).  Credit-out pending is the presence of the frozen notice; the frame request is
the condition of R107, `Channel.requests`. -/
structure Channel where
  state : ChannelState
  destination : Nat
  /-- Bit z stands for zone z. -/
  zones : BitVec 64
  mode : ChannelMode
  credit : Nat
  queue : List Entry
  owed : BitVec 64
  lost : Nat
  creditOut : Option CreditOut
deriving DecidableEq, Repr

/-- A channel after device reset (R100). -/
def Channel.reset : Channel where
  state := .closed
  destination := 0
  zones := 0
  mode := .prompt
  credit := 0
  queue := []
  owed := 0
  lost := 0
  creditOut := none

/-! ## The Condition Unit (chapter 11) -/

/-- The twelve condition flags (R153). -/
inductive Flag where
  | fieldFull | fieldHalf | trunkFull | passFull | linkCrc | eccFix | eccDamage | locked | parkFull | reportLost
  | starved | testShort
deriving DecidableEq, Repr

/-- The statistics counters (section 12.6). -/
inductive Ctr where
  | recordCorrection | recordDamage | curveCorrection | curveDamage | parkedReading | parkOverflow | copy | eviction
  | writeBack | writeBackSkipped | faultDrop | unknownBin | tagMismatch | testRefused | repeated | outOfOrder
  | sensorRestart | overtaken | appliedReading | tiltHold | lidHold | blindHold | damagedCurveHold | emptying
  | notice | noticeWithheld | zoneTrigger | reportFrame | creditOut | sweepVisit | sweepSkip | staleMark
  | staleAbandon | gap | sweepEnd | fieldLineError | trunkLineError | fieldCrcError | trunkCrcError
  | fieldMalformed | trunkMalformed | otherStation | replaceDrop | fieldIngressDrop | trunkIngressDrop
  | requestRefused | requestLost | passThroughDrop | fieldEgressDrop
deriving DecidableEq, Repr

/-- One statistics counter: live value, snapshot value and changed flag (R157). -/
structure Counter where
  live : Nat
  snap : Nat
  changed : Bool
deriving DecidableEq, Repr

/-- A counter after device reset (R157). -/
def Counter.zero : Counter where
  live := 0
  snap := 0
  changed := false

/-- The Condition Unit.  `raised` holds the eleven sticky flags; LOCKED follows the lock state (R153,
`State.raisedFlags`).  A holdoff of 0 has reached its end at a tick and waits for HOLDOFF_END (log entry 8). -/
structure ConditionUnit where
  raised : BitVec 12
  enabled : BitVec 12
  address : Option Nat
  noticeWaiting : Bool
  holdoff : Option Nat
  gainInHoldoff : Bool
  lastSent : BitVec 12
  counters : Table Counter
  snapshotTime : Nat
deriving DecidableEq, Repr

/-- The three blocks that every change of a bin is reported to: the Zone Tally Unit, the Report Unit and the
Condition Unit.  `boundary` is set at the tick on which a pace boundary falls and cleared when PACE_BOUNDARY is
taken (log entry 8). -/
structure Reporting where
  zones : Table Tally
  channels : Table Channel
  boundary : Bool
  conditions : ConditionUnit
deriving DecidableEq, Repr

/-! ## The Sweep Engine (chapter 8) -/

/-- States of the Sweep Engine (R118). -/
inductive SweepState where
  | idle | running | suspended
deriving DecidableEq, Repr

/-- Modes of a sweep (R118). -/
inductive SweepMode where
  | auto | manual
deriving DecidableEq, Repr

/-- Directions of a sweep (R118). -/
inductive Direction where
  | up | down
deriving DecidableEq, Repr

/-- The visit stage (R118); WRITE keeps what the stale write needs of the visit's read (R123). -/
inductive VisitStage where
  | none
  | read
  | write (record : BinRecord) (generation lastHeard : Nat)
deriving DecidableEq, Repr

/-- The Sweep Engine (R118).  The countdown is absent when stopped.  `expired` is set at the tick on which the
countdown reaches 0 and cleared when AUTO_COUNTDOWN_EXPIRY is taken (log entry 8). -/
structure SweepEngine where
  state : SweepState
  mode : SweepMode
  first : Nat
  last : Nat
  direction : Direction
  cursor : Nat
  visited : Nat
  found : Nat
  countdown : Option Nat
  expired : Bool
  autoDue : Bool
  stage : VisitStage
deriving DecidableEq, Repr

/-! ## The link interfaces (chapter 9) -/

/-- States of a receiver (R133). -/
inductive RxState where
  | hunt | pair | length | cls | payload | crc
deriving DecidableEq, Repr

/-- A receiver: its state, and the octets it has taken since the sync pair, in order (R133). -/
structure Receiver where
  state : RxState
  taken : List Octet
deriving DecidableEq, Repr

/-- A REQUEST: the source address, tag and kind of its header, and its argument octets (section 12.2).  The
station number has been judged when the frame was received (R134). -/
structure Request where
  source : Nat
  tag : Nat
  kind : Octet
  args : List Octet
deriving DecidableEq, Repr

/-- The result codes (R145). -/
inductive ResultCode where
  | done | doneProtected | busy | locked | badRequest | badValue | conflict | damaged
deriving DecidableEq, Repr

/-- A REPLY (section 12.2): where it goes, the tag and kind it echoes, its result code and its content. -/
structure Reply where
  destination : Nat
  tag : Nat
  kind : Octet
  result : ResultCode
  content : List Octet
deriving DecidableEq, Repr

/-- A frame of the trunk ingress FIFO (R137). -/
inductive TrunkFrame where
  | foreign (payload : List Octet)
  | request (request : Request)
deriving DecidableEq, Repr

/-- The two classes of the trunk egress arbiter (R140). -/
inductive EgressClass where
  | own | passThrough
deriving DecidableEq, Repr

/-- The Field Link Interface (R135, R136, R139).  `tx` holds the octets of the frame FLD_TX took last. -/
structure FieldLink where
  rx : Receiver
  tx : Option (List Octet)
  ingress : List Reading
  egress : List (List Octet)
  activity : Table Nat
deriving DecidableEq, Repr

/-- The Trunk Link Interface (R137 to R141).  `tx` holds the octets of the frame TRK_TX took last. -/
structure TrunkLink where
  rx : Receiver
  tx : Option (List Octet)
  ingress : List TrunkFrame
  passThrough : List (List Octet)
  refusal : Option Reply
  lastClass : EgressClass
  lastChannel : Nat
deriving DecidableEq, Repr

/-! ## The Management Unit (chapter 10) -/

/-- The lock reasons (R146). -/
inductive LockReason where
  | curveInvalid | curveDamaged | curveMissing | sweepRange
deriving DecidableEq, Repr

/-- The request kinds (section 12.2). -/
inductive RequestKind where
  | info | timeSet | paramSet | paramRead | binLoad | binRead | curveLoad | curveRead | curveSwap | zoneRead
  | protect | hold | release | sweepStart | sweepSuspend | sweepResume | sweepRead | stop | clear | channelSet
  | channelClose | channelRead | credit | sync | alertSet | alertRead | alertClear | snapshot | statsRead
  | testStart | testStop | testRead | restart
deriving DecidableEq, Repr

/-- An entry of the command history (R147). -/
inductive History where
  | none
  | unknown
  | kind (kind : RequestKind)
deriving DecidableEq, Repr

/-- The seven parameters (section 10.5). -/
structure Params where
  dedupHold : Nat
  silenceLimit : Nat
  sweepInterval : Nat
  pacePeriod : Nat
  emptiedDrop : Nat
  summaryStep : Nat
  holdLimit : Nat
deriving DecidableEq, Repr

/-- The defaults (R150). -/
def Params.default : Params where
  dedupHold := 3
  silenceLimit := 21600
  sweepInterval := 3600
  pacePeriod := 300
  emptiedDrop := 300
  summaryStep := 500
  holdLimit := 300

/-- What the Management Unit waits for in serving the head request, or in carrying out a RESTART. -/
inductive Stage where
  /-- Nothing: the head request, if any, has not been taken, or its reply waits in the slot. -/
  | idle
  /-- The load grant of a BIN LOAD (R17, step 5). -/
  | load (bin : Nat) (record : BinRecord) (poison : Bool)
  /-- The converted read of a BIN LOAD (R18). -/
  | converted (bin : Nat)
  /-- The record read of a BIN READ (R24). -/
  | binRead (bin : Nat)
  /-- The record read of the bin scan of a CURVE SWAP that comes next (R35). -/
  | scan (bin : Nat)
  /-- The exchange of the banks (R37). -/
  | exchange
  /-- The end of the visit in progress, for a SWEEP SUSPEND (R127). -/
  | suspend
  /-- The grant of the reply of a RESTART (R152). -/
  | restartReply
  /-- A RESTART whose reply has been granted is to be carried out (R152). -/
  | restartDue
  /-- Its table-wide clear grant is done, and the other blocks are to take their RESTART states (R152). -/
  | restartCleared
deriving DecidableEq, Repr

/-- The Management Unit. The lock holds its reason and number (R146). -/
structure ManagementUnit where
  queue : List Request
  reply : Option Reply
  stage : Stage
  lock : Option (LockReason × Nat)
  newer : History
  older : History
  partTime : Nat
  params : Params
  station : Nat
  speed : Nat
deriving DecidableEq, Repr

/-! ## The Test Generator (section 11.4) -/

/-- Modes of the Test Generator (R158). -/
inductive TestMode where
  | mix | replace
deriving DecidableEq, Repr

/-- The arguments of a TEST START (R158). -/
structure TestArgs where
  first : Nat
  last : Nat
  tag : Nat
  startDistance : Nat
  step : Nat
  interval : Nat
  mode : TestMode
deriving DecidableEq, Repr

/-- The Test Generator (R158). -/
structure TestGenerator where
  running : Bool
  args : TestArgs
  bin : Nat
  distance : Nat
  sequence : Nat
  generated : Nat
  applied : Nat
deriving DecidableEq, Repr

/-! ## The whole part -/

/-- The state of the part, block by block, with two fields of the model's own: `freeCount`, which numbers the
uses of the free value of `Config`, and `pending`, the queue of the commands that wait. -/
structure State where
  field : FieldLink
  trunk : TrunkLink
  filter : ArrivalFilter
  reader : ReadingUnit
  table : BinTable
  curves : CurveStore
  report : Reporting
  sweep : SweepEngine
  mgmt : ManagementUnit
  test : TestGenerator
  freeCount : Nat
  pending : List Instr
deriving DecidableEq, Repr

/-- The three outcomes of one command. -/
abbrev Out := Host.Outcome State Fault Refusal

/-- The part after device reset with the straps at `station` and `speed` (R25, R28, R39, R45, R98, R100, R118,
R142, R143, R147, R148, R150, R153, R156, R157, R158). -/
def State.resetWith (station speed : Nat) : State where
  field := { rx := ⟨.hunt, []⟩, tx := none, ingress := [], egress := [], activity := [] }
  trunk :=
    { rx := ⟨.hunt, []⟩, tx := none, ingress := [], passThrough := [], refusal := none
      lastClass := .passThrough, lastChannel := 7 }
  filter := { entries := [], retiring := none }
  reader := .idle
  table := { bins := [], protectedSegments := 0, held := [], park := [], lastGrant := .managementUnit }
  curves := { bankA := [], bankB := [], active := .a }
  report :=
    { zones := [], channels := [], boundary := false
      conditions :=
        { raised := 0, enabled := 0xFFD, address := none, noticeWaiting := false, holdoff := none
          gainInHoldoff := false, lastSent := 0, counters := [], snapshotTime := 0 } }
  sweep :=
    { state := .idle, mode := .manual, first := 0, last := 0, direction := .up, cursor := 0, visited := 0
      found := 0, countdown := some 3600, expired := false, autoDue := false, stage := .none }
  mgmt :=
    { queue := [], reply := none, stage := .idle, lock := none, newer := .none, older := .none, partTime := 0
      params := Params.default, station := station, speed := speed }
  test :=
    { running := false
      args := { first := 0, last := 0, tag := 0, startDistance := 0, step := 0, interval := 0, mode := .mix }
      bin := 0, distance := 0, sequence := 0, generated := 0, applied := 0 }
  freeCount := 0
  pending := []

/-- The part right after device reset.  The straps are pins, and the manual gives them no value: log entry 4
takes station number 0 and link speed 0 (DESIGN CHOICE). -/
def State.reset : State := State.resetWith 0 0

end Sys2Proof.Machine
end

