-- ==== Sys2Proof/Machine/Table.lean ====
section
/-! DEFINITION. Reading and writing the part's numbered stores, their canonical form, and sets held as bits. -/

namespace Sys2Proof.Machine

/-! ## Numbered stores -/

/-- The entry of a store under a number; an unlisted number holds the store's reset entry. -/
def Table.get {α : Type} (reset : α) (key : Nat) : Table α → α
  | [] => reset
  | (k, v) :: rest => if k = key then v else Table.get reset key rest

/-- Whether a store lists a number. -/
def Table.has {α : Type} (key : Nat) (t : Table α) : Bool := t.any fun e => e.1 == key

/-- The store without the entry of a number. -/
def Table.erase {α : Type} (key : Nat) (t : Table α) : Table α := t.filter fun e => e.1 != key

/-- The store with an entry put in its place. -/
def Table.insert {α : Type} (key : Nat) (value : α) : Table α → Table α
  | [] => [(key, value)]
  | (k, v) :: rest =>
    if key < k then (key, value) :: (k, v) :: rest
    else if k = key then (key, value) :: rest
    else (k, v) :: Table.insert key value rest

/-- Write an entry. Writing the reset entry removes it from the list, so that equal stores are equal lists. -/
def Table.set {α : Type} [DecidableEq α] (reset : α) (key : Nat) (value : α) (t : Table α) : Table α :=
  if value = reset then Table.erase key t else Table.insert key value t

/-- Change every listed entry by a function that leaves the reset entry as it is. -/
def Table.mapEntries {α : Type} [DecidableEq α] (reset : α) (f : α → α) (t : Table α) : Table α :=
  (t.map fun e => (e.1, f e.2)).filter fun e => e.2 ≠ reset

/-- The numbers stand in rising order, the first above `low`. -/
def Table.rising {α : Type} : Option Nat → Table α → Bool
  | _, [] => true
  | none, (k, _) :: rest => Table.rising (some k) rest
  | some low, (k, _) :: rest => low < k && Table.rising (some k) rest

/-- The canonical form: numbers strictly rising, and no entry equal to the reset entry. -/
def Table.wf {α : Type} [DecidableEq α] (reset : α) (t : Table α) : Bool :=
  Table.rising none t && t.all fun e => e.2 ≠ reset

/-! ## Sets held as bits -/

/-- Whether a set holds a number. -/
def Bits.has {n : Nat} (i : Nat) (v : BitVec n) : Bool := v.getLsbD i

/-- The set with a number added. -/
def Bits.put {n : Nat} (i : Nat) (v : BitVec n) : BitVec n := v ||| BitVec.twoPow n i

/-- The set with a number removed. -/
def Bits.drop {n : Nat} (i : Nat) (v : BitVec n) : BitVec n := v &&& ~~~ BitVec.twoPow n i

/-- The members of a set below `n`, in rising order. -/
def Bits.members {n : Nat} (v : BitVec n) : List Nat := (List.range n).filter fun i => Bits.has i v

end Sys2Proof.Machine
end

