-- ==== Sys2Proof/Machine/Flags.lean ====
section
/-! DEFINITION. Condition flags, condition notices and statistics counters (sections 11.1 to 11.3). -/

namespace Sys2Proof.Machine

/-- The bit of a condition flag (section 12.5). -/
def Flag.index : Flag → Nat
  | .fieldFull => 0
  | .fieldHalf => 1
  | .trunkFull => 2
  | .passFull => 3
  | .linkCrc => 4
  | .eccFix => 5
  | .eccDamage => 6
  | .locked => 7
  | .parkFull => 8
  | .reportLost => 9
  | .starved => 10
  | .testShort => 11

/-- The index of a statistics counter (section 12.6). -/
def Ctr.index : Ctr → Nat
  | .recordCorrection => 0
  | .recordDamage => 1
  | .curveCorrection => 2
  | .curveDamage => 3
  | .parkedReading => 4
  | .parkOverflow => 5
  | .copy => 6
  | .eviction => 7
  | .writeBack => 8
  | .writeBackSkipped => 9
  | .faultDrop => 10
  | .unknownBin => 11
  | .tagMismatch => 12
  | .testRefused => 13
  | .repeated => 14
  | .outOfOrder => 15
  | .sensorRestart => 16
  | .overtaken => 17
  | .appliedReading => 18
  | .tiltHold => 19
  | .lidHold => 20
  | .blindHold => 21
  | .damagedCurveHold => 22
  | .emptying => 23
  | .notice => 24
  | .noticeWithheld => 25
  | .zoneTrigger => 26
  | .reportFrame => 27
  | .creditOut => 28
  | .sweepVisit => 29
  | .sweepSkip => 30
  | .staleMark => 31
  | .staleAbandon => 32
  | .gap => 33
  | .sweepEnd => 34
  | .fieldLineError => 35
  | .trunkLineError => 36
  | .fieldCrcError => 37
  | .trunkCrcError => 38
  | .fieldMalformed => 39
  | .trunkMalformed => 40
  | .otherStation => 41
  | .replaceDrop => 42
  | .fieldIngressDrop => 43
  | .trunkIngressDrop => 44
  | .requestRefused => 45
  | .requestLost => 46
  | .passThroughDrop => 47
  | .fieldEgressDrop => 48

/-- The number of statistics counters (R157). -/
def counterCount : Nat := 49

/-- A counter, by its index. -/
def ConditionUnit.counter (index : Nat) (u : ConditionUnit) : Counter := Table.get Counter.zero index u.counters

/-- A live counter rises by an amount and stops at its maximum; a change sets its changed flag (R157). -/
def Counter.rise (amount : Nat) (k : Counter) : Counter :=
  let live := min (k.live + amount) Config.counterMax
  { k with live := live, changed := k.changed || live != k.live }

/-- Count an amount on a statistics counter. -/
def ConditionUnit.count (c : Ctr) (amount : Nat) (u : ConditionUnit) : ConditionUnit :=
  { u with counters := Table.set Counter.zero c.index ((u.counter c.index).rise amount) u.counters }

/-- A gain of the alert set (R155): without an alert address it is not remembered; with a notice waiting it shows
in that notice; in the holdoff it is kept for the holdoff's end; otherwise a notice waits. -/
def ConditionUnit.gain (u : ConditionUnit) : ConditionUnit :=
  if u.address.isNone || u.noticeWaiting then u
  else if u.holdoff.isSome then { u with gainInHoldoff := true }
  else { u with noticeWaiting := true }

/-- Raise a sticky flag (R153): raising it from clear is a gain when it is enabled (R155). -/
def ConditionUnit.raise (f : Flag) (u : ConditionUnit) : ConditionUnit :=
  if Bits.has f.index u.raised then u
  else
    let v := { u with raised := Bits.put f.index u.raised }
    if Bits.has f.index u.enabled then v.gain else v

/-- The LOCKED flag rises with the lock (R146, R153): a gain when it is enabled. -/
def ConditionUnit.lockRises (u : ConditionUnit) : ConditionUnit :=
  if Bits.has Flag.locked.index u.enabled then u.gain else u

/-- The RESTART state of the Condition Unit (R153, R156, R157): flags, waiting notice and statistics cleared,
enables, address and a running holdoff kept. -/
def ConditionUnit.restarted (now : Nat) (u : ConditionUnit) : ConditionUnit :=
  { u with
    raised := 0, noticeWaiting := false, gainInHoldoff := false, lastSent := 0, counters := [], snapshotTime := now }

/-- One counter in a SNAPSHOT (R157). -/
def Counter.snapped (zero : Bool) (k : Counter) : Counter where
  live := if zero then 0 else k.live
  snap := k.live
  changed := false

/-- SNAPSHOT (R157): every live counter is copied, every changed flag cleared, and with the zero option every
live counter set to 0. -/
def ConditionUnit.snapshot (zero : Bool) (now : Nat) (u : ConditionUnit) : ConditionUnit :=
  { u with counters := Table.mapEntries Counter.zero (Counter.snapped zero) u.counters, snapshotTime := now }

end Sys2Proof.Machine
end

