-- ==== Sys2Proof/Machine/Channels.lean ====
section
/-! DEFINITION. Planner Channels: posting, eligibility, exhaustion, requests and refill (chapter 7), and the Zone
Tally Unit's changes and triggers that post to them (chapter 6). -/

namespace Sys2Proof.Machine

/-! ## One channel -/

/-- The number of eligible entries (R105): all of a PROMPT queue, the due ones of a PACED queue. -/
def Channel.eligible (c : Channel) : Nat :=
  match c.mode with
  | .prompt => c.queue.length
  | .paced => (c.queue.filter (·.due)).length

/-- A channel is exhausted when it is OPEN, has an eligible entry and has credit 0 (R109). -/
def Channel.exhausted (c : Channel) : Bool := c.state == .opened && decide (0 < c.eligible) && c.credit == 0

/-- The frame request stands (R107): a CREDIT-OUT notice is pending, or the channel is OPEN with an eligible entry
and credit. -/
def Channel.requests (c : Channel) : Bool :=
  c.creditOut.isSome || (c.state == .opened && decide (0 < c.eligible) && decide (0 < c.credit))

/-- The channel takes offers that concern a zone: OPEN or STARVED, with the zone in its set (R102, R103). -/
def Channel.serves (zone : Nat) (c : Channel) : Bool := c.state != .closed && Bits.has zone c.zones

/-- A zone summary for the zone is in the queue. -/
def Channel.hasSummary (zone : Nat) (c : Channel) : Bool := c.queue.any fun e => e.item == .summary zone

/-- The four cases of R102. -/
inductive ZoneOffer where
  | coalesced | alreadyOwed | queued | owed
deriving DecidableEq, Repr

/-- The first case of R102 that applies. -/
def Channel.judgeZone (zone : Nat) (c : Channel) : ZoneOffer :=
  if c.hasSummary zone then .coalesced
  else if Bits.has zone c.owed then .alreadyOwed
  else if c.queue.length < Config.reportRoom then .queued
  else .owed

/-- An entry at the tail, with due mark no. -/
def Channel.join (item : Item) (c : Channel) : Channel := { c with queue := c.queue ++ [⟨item, false⟩] }

/-- The channel takes an offered zone (R102). -/
def Channel.takeZone (zone : Nat) (c : Channel) : Channel :=
  match c.judgeZone zone with
  | .coalesced => c
  | .alreadyOwed => c
  | .queued => c.join (.summary zone)
  | .owed => { c with owed := Bits.put zone c.owed }

/-- One owed zone is queued when the queue has room (R104). -/
def Channel.payOne (c : Channel) (zone : Nat) : Channel :=
  if Bits.has zone c.owed && decide (c.queue.length < Config.reportRoom) then
    ({ c with owed := Bits.drop zone c.owed }).join (.summary zone)
  else c

/-- The refill: owed zones join in rising zone number while the queue has room (R104). -/
def Channel.refill (c : Channel) : Channel := (List.range 64).foldl Channel.payOne c

/-- At a pace boundary a PACED channel that is OPEN or STARVED marks every entry of its queue due (R106). -/
def Channel.boundary (c : Channel) : Channel :=
  if c.mode = .paced ∧ c.state ≠ .closed then { c with queue := c.queue.map fun e => { e with due := true } } else c

/-- The queue and the owed set emptied, and a pending CREDIT-OUT cleared (R112, R113, R117). -/
def Channel.emptied (c : Channel) : Channel := { c with queue := [], owed := 0, creditOut := none }

/-- The CREDIT-OUT notice frozen at an exhaustion (R110). -/
def Channel.frozenCreditOut (now number : Nat) (c : Channel) : CreditOut where
  destination := c.destination
  channel := number
  partTime := now
  queueLength := c.queue.length
  lost := c.lost

/-- The RESTART state of a channel (R117). -/
def Channel.restarted (c : Channel) : Channel :=
  { c.emptied with credit := 0, lost := 0, state := if c.state = .starved then .opened else c.state }

/-! ## The eight channels -/

/-- The channel numbers, in order (R100). -/
def channelNumbers : List Nat := [0, 1, 2, 3, 4, 5, 6, 7]

/-- A channel, by its number. -/
def Reporting.channel (number : Nat) (r : Reporting) : Channel := Table.get Channel.reset number r.channels

/-- Write a channel. -/
def Reporting.setChannel (number : Nat) (c : Channel) (r : Reporting) : Reporting :=
  { r with channels := Table.set Channel.reset number c r.channels }

/-- Count on a statistics counter. -/
def Reporting.count (c : Ctr) (amount : Nat) (r : Reporting) : Reporting :=
  { r with conditions := r.conditions.count c amount }

/-- Raise a condition flag. -/
def Reporting.raise (f : Flag) (r : Reporting) : Reporting := { r with conditions := r.conditions.raise f }

/-- A channel that has become exhausted goes to STARVED, freezes its CREDIT-OUT notice and raises STARVED (R109). -/
def Reporting.settle (now number : Nat) (r : Reporting) : Reporting :=
  let c := r.channel number
  if c.exhausted then
    (r.setChannel number
      { c with state := .starved, creditOut := some (c.frozenCreditOut now number) }).raise .starved
  else r

/-- A zone is offered to one channel, which takes it when it serves the zone (R102, R109). -/
def Reporting.offerZoneTo (now zone : Nat) (r : Reporting) (number : Nat) : Reporting :=
  let c := r.channel number
  if c.serves zone then (r.setChannel number (c.takeZone zone)).settle now number else r

/-- A triggered zone is offered to every channel (R95, R102). -/
def Reporting.offerZone (now zone : Nat) (r : Reporting) : Reporting :=
  channelNumbers.foldl (Reporting.offerZoneTo now zone) r

/-- A notice is offered to one channel: it joins the tail, or is lost for want of room (R103). -/
def Reporting.offerNoticeTo (now : Nat) (n : Notice) (r : Reporting) (number : Nat) : Reporting :=
  let c := r.channel number
  if c.serves n.zone then
    if c.queue.length < Config.reportRoom then (r.setChannel number (c.join (.notice n))).settle now number
    else (r.setChannel number { c with lost := min (c.lost + 1) Config.lostMax }).raise .reportLost
  else r

/-- A notice is offered to every channel (R103). -/
def Reporting.offerNotice (now : Nat) (n : Notice) (r : Reporting) : Reporting :=
  channelNumbers.foldl (Reporting.offerNoticeTo now n) r

/-- A notice is made, or withheld because its kind is not selected; either is counted (R83). -/
def Reporting.notify (now : Nat) (selected : Bool) (n : Notice) (r : Reporting) : Reporting :=
  if selected then (r.count .notice 1).offerNotice now n else r.count .noticeWithheld 1

/-! ## Contributions and tallies -/

/-- A bin's contribution (R86); it is a member of the zone when there is one. -/
structure Contribution where
  zone : Option Nat
  full : Bool
  near : Bool
  stale : Bool
  fallen : Bool
  fault : Bool
  litres : Nat
deriving DecidableEq, Repr

/-- The contribution derived from a Fill State (R86). -/
def FillState.contribution (f : FillState) : Contribution :=
  match f.service with
  | .active =>
    { zone := f.countedZone, full := f.level == .full, near := f.level == .near, stale := f.stale
      fallen := f.fallen, fault := false, litres := f.countedLitres }
  | .fault =>
    { zone := f.countedZone, full := false, near := false, stale := false, fallen := false, fault := true, litres := 0 }
  | .off =>
    { zone := none, full := false, near := false, stale := false, fallen := false, fault := false, litres := 0 }

/-- The removal of a contribution from a tally (R91, step 1). -/
def Tally.remove (c : Contribution) (t : Tally) : Tally :=
  { t with
    members := t.members - 1, full := t.full - c.full.toNat, near := t.near - c.near.toNat
    stale := t.stale - c.stale.toNat, fallen := t.fallen - c.fallen.toNat, fault := t.fault - c.fault.toNat
    litres := t.litres - c.litres }

/-- The addition of a contribution to a tally (R91, step 2). -/
def Tally.add (c : Contribution) (t : Tally) : Tally :=
  { t with
    members := t.members + 1, full := t.full + c.full.toNat, near := t.near + c.near.toNat
    stale := t.stale + c.stale.toNat, fallen := t.fallen + c.fallen.toNat, fault := t.fault + c.fault.toNat
    litres := t.litres + c.litres }

/-- A tally, by its zone. -/
def Reporting.tally (zone : Nat) (r : Reporting) : Tally := Table.get Tally.zero zone r.zones

/-- Write a tally. -/
def Reporting.setTally (zone : Nat) (t : Tally) (r : Reporting) : Reporting :=
  { r with zones := Table.set Tally.zero zone t r.zones }

/-- Change the tally of a contribution's zone, if it has one. -/
def Reporting.changeTally (zone : Option Nat) (f : Tally → Tally) (r : Reporting) : Reporting :=
  match zone with
  | none => r
  | some z => r.setTally z (f (r.tally z))

/-- Both steps of a contribution change (R91). -/
def Reporting.moveContribution (old new : Contribution) (r : Reporting) : Reporting :=
  (r.changeTally old.zone (Tally.remove old)).changeTally new.zone (Tally.add new)

/-- The zones that a change touches, in order (R91). -/
def touchedZones (old new : Contribution) : List Nat :=
  match old.zone, new.zone with
  | none, none => []
  | some a, none => [a]
  | none, some b => [b]
  | some a, some b => if a = b then [a] else [a, b]

/-- The counts of a tally agree. -/
def Tally.sameCounts (t u : Tally) : Bool :=
  t.members == u.members && t.full == u.full && t.near == u.near && t.stale == u.stale && t.fallen == u.fallen
    && t.fault == u.fault

/-- The difference of two values, taken without sign. -/
def gapBetween (a b : Nat) : Nat := (a - b) + (b - a)

/-- A touched zone triggers (R93): a count has changed, or the change has altered the litres and they lie at
least the summary step from the reference litres. -/
def Tally.triggers (step : Nat) (before after : Tally) : Bool :=
  !before.sameCounts after
    || (before.litres != after.litres && decide (step ≤ gapBetween after.litres after.reference))

/-- The trigger test of one touched zone (R93 to R95): a trigger sets the reference litres, is counted, and is
offered to the channels. -/
def Reporting.testZone (now step : Nat) (before : Table Tally) (r : Reporting) (zone : Nat) : Reporting :=
  let t := r.tally zone
  if Tally.triggers step (Table.get Tally.zero zone before) t then
    ((r.setTally zone { t with reference := t.litres }).count .zoneTrigger 1).offerZone now zone
  else r

/-- A contribution change is applied whole, and then each touched zone is tested, in order (R91, R93); nothing is
handed on when the contributions agree in every component (R86). -/
def Reporting.applyChange (now step : Nat) (old new : Contribution) (r : Reporting) : Reporting :=
  if old = new then r
  else (touchedZones old new).foldl (Reporting.testZone now step r.zones) (r.moveContribution old new)

/-- A tally after RESTART (R99). -/
def Tally.restarted (t : Tally) : Tally := { Tally.zero with members := t.members, fault := t.fault }

/-- The RESTART state of the Report Unit and the Condition Unit (R117, R153, R156, R157). -/
def Reporting.restarted (now : Nat) (r : Reporting) : Reporting :=
  { r with
    channels := Table.mapEntries Channel.reset Channel.restarted r.channels
    conditions := r.conditions.restarted now }

end Sys2Proof.Machine
end

