-- ==== Sys2Proof/Machine/Fill.lean ====
section
/-! DEFINITION. The fill computation, stage by stage (chapter 4), the sequence check (section 3.3), and the level
judgement (section 5.1): functions of values alone. -/

namespace Sys2Proof.Machine

/-! ## Sequence check -/

/-- What the sequence check decides (R50, R51): accepted with the new gap count, the gain of the gap counter and
whether it is a sensor restart; a repeat; or out of order with the run that the run write sets. -/
inductive SequenceVerdict where
  | accepted (gapCount gapGain : Nat) (sensorRestart : Bool)
  | repeated
  | outOfOrder (run : Nat)
deriving DecidableEq, Repr

/-- The forward difference of two sequences, modulo 256 (R50). -/
def sequenceStep (sequence last : Nat) : Nat := (sequence + (256 - last % 256)) % 256

/-- The sequence check on the kept Fill State: the first row of R50 that applies, and R51. -/
def judgeSequence (fill : FillState) (sequence : Nat) : SequenceVerdict :=
  match fill.lastSequence with
  | none => .accepted fill.gapCount 0 false
  | some last =>
    if fill.stale then .accepted fill.gapCount 0 false
    else
      let d := sequenceStep sequence last
      if d = 0 then .repeated
      else if d ≤ 127 then .accepted (min (fill.gapCount + (d - 1)) 255) (d - 1) false
      else if fill.outOfOrderRun < 2 then .outOfOrder (fill.outOfOrderRun + 1)
      else .accepted fill.gapCount 0 true

/-! ## Echo choice, temperature, distance, height -/

/-- The present echoes: values from 1 to 30,000 µs (R62). -/
def presentEchoes (echoes : List Nat) : List Nat := echoes.filter fun e => decide (1 ≤ e) && decide (e ≤ 30000)

/-- The middle value of three. -/
def medianOfThree (a b c : Nat) : Nat := max (min a b) (min (max a b) c)

/-- Echo choice (R62): for LITTER the first present echo; for GLASS the median of three, the larger of two, or the
one; none when no echo is present. -/
def chooseEcho (kind : BinKind) (echoes : List Nat) : Option Nat :=
  match kind, presentEchoes echoes with
  | _, [] => none
  | .litter, e :: _ => some e
  | .glass, [e] => some e
  | .glass, [e, f] => some (max e f)
  | .glass, e :: f :: g :: _ => some (medianOfThree e f g)

/-- The temperature used (R63). -/
def temperatureUsed (field : Int) : Int :=
  if field = -128 then 20 else if field < -40 then -40 else if 85 < field then 85 else field

/-- The speed factor: tenths of a millimetre per second (R64). -/
def speedFactor (temperature : Int) : Int := 331300 + 606 * temperature

/-- The distance in millimetres, truncated and clamped into 0 to 4095 (R64). -/
def distanceOf (echo : Nat) (temperature : Int) : Nat :=
  min ((echo * speedFactor temperature).tdiv 2000000).toNat 4095

/-- The height of the contents above the floor (R65). -/
def heightOf (emptyDepth distance : Nat) : Nat := emptyDepth - max distance 50

/-! ## Curve -/

/-- The raw fill at a height (R66): linear between the two points around it, truncated, and the last point's fill
at or above the last height. -/
def rawFill (height : Nat) : List Point → Nat
  | [] => 0
  | [p] => p.fill
  | p :: q :: rest =>
    if height < q.height then p.fill + (q.fill - p.fill) * (height - p.height) / (q.height - p.height)
    else rawFill height (q :: rest)

/-- Heights increase strictly and fills do not decrease, from each point to the next (R27). -/
def pointsRise : List Point → Bool
  | p :: q :: rest => decide (p.height < q.height) && decide (p.fill ≤ q.fill) && pointsRise (q :: rest)
  | _ => true

/-- The shape rules of a present curve (R27). -/
def shapeHolds (points : List Point) : Bool :=
  match points with
  | [] => false
  | p :: rest => p.height == 0 && pointsRise (p :: rest)

/-! ## Emptied test, filter, litres -/

/-- The step of the filter (R69). -/
def filterStep (old raw weight : Nat) : Int :=
  let delta : Int := (raw : Int) - old
  let step := (delta * weight).tdiv 16
  if step = 0 then delta.sign else step

/-- The new filtered value, and whether the reading is an emptying (R67): the first of the three cases. -/
def filterReading (old : Option Nat) (raw emptiedDrop weight : Nat) : Nat × Bool :=
  match old with
  | none => (raw, false)
  | some o =>
    if raw + emptiedDrop ≤ o then (raw, true) else (((o : Int) + filterStep o raw weight).toNat, false)

/-- Counted litres (R70). -/
def litresOf (filtered capacity : Nat) : Nat := filtered * capacity / 1000

/-- The fill result of a reading whose echo is chosen and whose curve is read (R66 to R70). -/
def computeFill (record : BinRecord) (old : Option Nat) (emptiedDrop echo : Nat) (temperature : Int)
    (points : List Point) : FillResult :=
  let raw := rawFill (heightOf record.emptyDepth (distanceOf echo (temperatureUsed temperature))) points
  let outcome := filterReading old raw emptiedDrop record.weight
  .computed raw outcome.1 outcome.2 (litresOf outcome.1 record.capacity)

/-- What the hold tests that need no curve and the echo choice come to (R58, R62): held, or one echo time. -/
inductive EchoStage where
  | held (cause : HoldCause)
  | echo (time : Nat)
deriving DecidableEq, Repr

/-- The hold tests that need no curve, in order (R58): TILT, LID, and BLIND by the echo choice. -/
def echoStage (kind : BinKind) (r : Reading) : EchoStage :=
  if r.tilt then .held .tilt
  else if kind = .glass ∧ r.lidOpen = true then .held .lid
  else
    match chooseEcho kind r.echoes with
    | none => .held .blind
    | some time => .echo time

/-- The echo time that gives an intended distance at 20 °C, rounded up (R73). -/
def echoFor (distance : Nat) : Nat := (distance * 2000000 + 343419) / 343420

/-! ## The level -/

/-- The level judgement (R74): the first line that applies, with UNHEARD counted as LOW for the basis. -/
def judgeLevel (filtered warn collect hysteresis : Nat) (basis : Level) : Level :=
  if collect ≤ filtered then .full
  else if basis = .full ∧ collect ≤ filtered + hysteresis then .full
  else if warn ≤ filtered then .near
  else if (basis = .near ∨ basis = .full) ∧ warn ≤ filtered + hysteresis then .near
  else .low

end Sys2Proof.Machine
end

