-- ==== Sys2Proof/Machine/Operands.lean ====
section
/-! DEFINITION. Octets: the envelope of frames and its CRC (R132), the octet layouts of chapter 12 both ways, and
the argument forms of the management requests. -/

namespace Sys2Proof.Machine

/-! ## Numbers as octets (R161: high octet first) -/

/-- The number that a run of octets carries, high octet first. -/
def beValue (octets : List Octet) : Nat := octets.foldl (fun n o => 256 * n + o.toNat) 0

/-- A number carried in `width` octets, high octet first. -/
def beOctets : Nat → Nat → List Octet
  | 0, _ => []
  | width + 1, n => beOctets width (n / 256) ++ [BitVec.ofNat 8 n]

/-- The field of `width` octets at an offset. -/
def fieldAt (offset width : Nat) (octets : List Octet) : Nat := beValue ((octets.drop offset).take width)

/-- The octet at an offset; 0 past the end, which no judged payload reads. -/
def octetAt (offset : Nat) (octets : List Octet) : Octet := octets.getD offset 0

/-- Bit `i` of the octet at an offset. -/
def flagAt (offset i : Nat) (octets : List Octet) : Bool := (octetAt offset octets).getLsbD i

/-- A signed octet (R161: two's complement). -/
def signedOctet (n : Int) : Octet := BitVec.ofInt 8 n

/-- A yes or no as 01H or 00H. -/
def boolOctet (b : Bool) : Octet := if b then 1 else 0

/-! ## The envelope (R132) -/

/-- One bit of the CRC's shift: the remainder of x¹⁶ + x¹² + x⁵ + 1. -/
def crcBit (crc : BitVec 16) : BitVec 16 := if crc.msb then (crc <<< 1) ^^^ 0x1021#16 else crc <<< 1

/-- The CRC after `n` bits. -/
def crcBits : Nat → BitVec 16 → BitVec 16
  | 0, crc => crc
  | n + 1, crc => crcBits n (crcBit crc)

/-- The CRC taken on by one octet, its most significant bit first. -/
def crcOctet (crc : BitVec 16) (octet : Octet) : BitVec 16 := crcBits 8 (crc ^^^ (octet.setWidth 16 <<< 8))

/-- The CRC of a run of octets: it starts from FFFFH and is not inverted at the end. -/
def crc16 (octets : List Octet) : BitVec 16 := octets.foldl crcOctet 0xFFFF#16

/-- A frame: its class octet and its payload. -/
structure Frame where
  cls : Octet
  payload : List Octet
deriving DecidableEq, Repr

/-- What the CRC covers: the length octet, the class octet and the payload. -/
def Frame.body (f : Frame) : List Octet := BitVec.ofNat 8 f.payload.length :: f.cls :: f.payload

/-- The octets of a frame on the wire (R132). -/
def Frame.octets (f : Frame) : List Octet := 0xA5 :: 0x3C :: (f.body ++ beOctets 2 (crc16 f.body).toNat)

/-- The class codes (R134). -/
def classSensor : Octet := 0x01
def classForeign : Octet := 0x02
def classRequest : Octet := 0x10
def classReply : Octet := 0x11
def classReport : Octet := 0x20
def classNotice : Octet := 0x21

/-! ## SENSOR payloads (section 12.1) -/

/-- A SENSOR frame is well formed: length as its echo count requires, echo count 0 to 3, lane 0 to 7, bin 0 to
4095 (R134). -/
def sensorWellFormed (p : List Octet) : Bool :=
  let echoes := (octetAt 9 p).toNat
  echoes ≤ 3 && p.length == 10 + 2 * echoes && (octetAt 7 p).toNat ≤ 7 && fieldAt 0 2 p ≤ Config.lastBin

/-- The echo times of a SENSOR payload, in list order. -/
def echoTimes : List Octet → List Nat
  | high :: low :: rest => beValue [high, low] :: echoTimes rest
  | _ => []

/-- The reading that a SENSOR payload carries. -/
def readSensor (p : List Octet) : Reading where
  bin := fieldAt 0 2 p
  tag := fieldAt 2 2 p
  sequence := (octetAt 4 p).toNat
  tilt := flagAt 5 0 p
  lidOpen := flagAt 5 1 p
  temperature := (octetAt 6 p).toInt
  lane := (octetAt 7 p).toNat
  margin := (octetAt 8 p).toInt
  echoes := echoTimes (p.drop 10)

/-! ## Requests (section 12.2) -/

/-- The value of a request kind. -/
def RequestKind.code : RequestKind → Octet
  | .info => 0x01 | .timeSet => 0x02 | .paramSet => 0x08 | .paramRead => 0x09
  | .binLoad => 0x10 | .binRead => 0x11
  | .curveLoad => 0x18 | .curveRead => 0x19 | .curveSwap => 0x1A
  | .zoneRead => 0x20
  | .protect => 0x28 | .hold => 0x29 | .release => 0x2A
  | .sweepStart => 0x30 | .sweepSuspend => 0x31 | .sweepResume => 0x32 | .sweepRead => 0x33 | .stop => 0x34
  | .clear => 0x38
  | .channelSet => 0x40 | .channelClose => 0x41 | .channelRead => 0x42 | .credit => 0x43 | .sync => 0x44
  | .alertSet => 0x48 | .alertRead => 0x49 | .alertClear => 0x4A
  | .snapshot => 0x50 | .statsRead => 0x51
  | .testStart => 0x58 | .testStop => 0x59 | .testRead => 0x5A
  | .restart => 0x60

/-- All request kinds. -/
def RequestKind.all : List RequestKind :=
  [.info, .timeSet, .paramSet, .paramRead, .binLoad, .binRead, .curveLoad, .curveRead, .curveSwap, .zoneRead,
    .protect, .hold, .release, .sweepStart, .sweepSuspend, .sweepResume, .sweepRead, .stop, .clear, .channelSet,
    .channelClose, .channelRead, .credit, .sync, .alertSet, .alertRead, .alertClear, .snapshot, .statsRead,
    .testStart, .testStop, .testRead, .restart]

/-- The request kind that a kind value names, if any (R144). -/
def RequestKind.ofCode (code : Octet) : Option RequestKind := RequestKind.all.find? fun k => k.code == code

/-- The number of argument octets that a kind requires (R144); a CURVE LOAD's follows from the point count that
its second argument octet carries. -/
def RequestKind.argLength (args : List Octet) : RequestKind → Nat
  | .timeSet => 4
  | .paramSet => 29
  | .binLoad => 22
  | .binRead => 2
  | .curveLoad => 2 + 4 * (octetAt 1 args).toNat
  | .curveRead => 2
  | .zoneRead => 2
  | .protect => 4
  | .hold => 4
  | .release => 1
  | .sweepStart => 5
  | .channelSet => 12
  | .channelClose => 1
  | .channelRead => 1
  | .credit => 2
  | .sync => 1
  | .alertSet => 5
  | .alertClear => 2
  | .snapshot => 1
  | .statsRead => 2
  | .testStart => 13
  | .info | .paramRead | .curveSwap | .sweepSuspend | .sweepResume | .sweepRead | .stop | .clear | .alertRead
  | .testStop | .testRead | .restart => 0

/-- The number of octets of a request header. -/
def requestHeader : Nat := 6

/-- The request that a REQUEST payload of at least six octets carries. -/
def readRequest (p : List Octet) : Request where
  source := fieldAt 1 2 p
  tag := fieldAt 3 2 p
  kind := octetAt 5 p
  args := p.drop requestHeader

/-- The value of a result code. -/
def ResultCode.code : ResultCode → Octet
  | .done => 0x00
  | .doneProtected => 0x01
  | .busy => 0x02
  | .locked => 0x03
  | .badRequest => 0x04
  | .badValue => 0x05
  | .conflict => 0x06
  | .damaged => 0x07

/-- The frame of a REPLY (section 12.2). -/
def Reply.frame (station : Nat) (r : Reply) : Frame where
  cls := classReply
  payload :=
    beOctets 2 r.destination ++ beOctets 1 station ++ beOctets 2 r.tag ++ [r.kind, r.result.code] ++ r.content

/-! ## Argument forms (section 12.3) -/

/-- The bin number of a BIN LOAD or a BIN READ. -/
def argBin (args : List Octet) : Nat := fieldAt 0 2 args

/-- The loaded fields that a BIN LOAD carries. -/
def argRecord (args : List Octet) : BinRecord where
  inService := flagAt 2 0 args
  testBin := flagAt 2 1 args
  kind := if flagAt 2 3 args then .glass else .litter
  tag := fieldAt 3 2 args
  zone := fieldAt 5 1 args
  curve := fieldAt 6 1 args
  emptyDepth := fieldAt 7 2 args
  capacity := fieldAt 9 2 args
  warn := fieldAt 11 2 args
  collect := fieldAt 13 2 args
  hysteresis := fieldAt 15 1 args
  weight := fieldAt 16 1 args
  silenceLimit := if fieldAt 17 4 args = 0 then none else some (fieldAt 17 4 args)
  selection := (octetAt 21 args).setWidth 6

/-- The poison option of a BIN LOAD. -/
def argPoison (args : List Octet) : Bool := flagAt 2 2 args

/-- The ranges of the loaded fields (section 1.2, R19). -/
def BinRecord.inRange (r : BinRecord) : Bool :=
  r.zone ≤ 63 && r.curve ≤ 31 && 200 ≤ r.emptyDepth && r.emptyDepth ≤ 3000 && 10 ≤ r.capacity && r.capacity ≤ 5000
    && 1 ≤ r.warn && r.warn ≤ 999 && r.warn + 1 ≤ r.collect && r.collect ≤ 1000
    && r.hysteresis ≤ 200 && r.hysteresis < r.warn && 1 ≤ r.weight && r.weight ≤ 16
    && (match r.silenceLimit with
        | none => true
        | some limit => 600 ≤ limit && limit ≤ 604800)

/-- The points that follow a CURVE LOAD's slot and point count. -/
def argPoints : List Octet → List Point
  | h1 :: h0 :: f1 :: f0 :: rest => ⟨beValue [h1, h0], beValue [f1, f0]⟩ :: argPoints rest
  | _ => []

/-- The bank that a bank octet names: 00H for A, 01H for B. -/
def bankOf (octet : Octet) : Option Bank :=
  if octet = 0 then some .a else if octet = 1 then some .b else none

/-- The direction that a direction octet names: 00H for UP, 01H for DOWN. -/
def directionOf (octet : Octet) : Option Direction :=
  if octet = 0 then some .up else if octet = 1 then some .down else none

/-- The mode that a CHANNEL SET's mode octet names: 00H for PROMPT, 01H for PACED. -/
def channelModeOf (octet : Octet) : Option ChannelMode :=
  if octet = 0 then some .prompt else if octet = 1 then some .paced else none

/-- The mode that a TEST START's mode octet names: 00H for MIX, 01H for REPLACE. -/
def testModeOf (octet : Octet) : Option TestMode :=
  if octet = 0 then some .mix else if octet = 1 then some .replace else none

/-- The zero option of a SNAPSHOT: 00H no, 01H yes. -/
def zeroOptionOf (octet : Octet) : Option Bool :=
  if octet = 0 then some false else if octet = 1 then some true else none

/-- An ALERT SET's address choice: what the alert address becomes, given what it is (00H keep, 01H set, 02H
remove); none for any other value. -/
def alertAddressOf (choice : Octet) (address : Nat) (present : Option Nat) : Option (Option Nat) :=
  if choice = 0 then some present
  else if choice = 1 then some (some address)
  else if choice = 2 then some none
  else none

/-- The set of segments of a PROTECT or a HOLD. -/
def argSegments (args : List Octet) : BitVec 32 := BitVec.ofNat 32 (fieldAt 0 4 args)

/-- The arguments of a TEST START, given its mode. -/
def argTest (args : List Octet) (mode : TestMode) : TestArgs where
  first := fieldAt 0 2 args
  last := fieldAt 2 2 args
  tag := fieldAt 4 2 args
  startDistance := fieldAt 6 2 args
  step := fieldAt 8 2 args
  interval := fieldAt 10 2 args
  mode := mode

/-- The ranges of a TEST START's arguments (R158). -/
def TestArgs.inRange (a : TestArgs) : Bool :=
  a.first ≤ Config.lastBin && a.last ≤ Config.lastBin && a.first ≤ a.last
    && 100 ≤ a.startDistance && a.startDistance ≤ 4000 && 1 ≤ a.step && a.step ≤ 500
    && 5 ≤ a.interval && a.interval ≤ 1000

/-- The value that a PARAM SET carries for parameter `i` of the table of section 10.5, if it is present.  Bit 7 of the
presence octet is ignored (log entry 26: the model's choice). -/
def argParam (i : Nat) (args : List Octet) : Option Nat :=
  if flagAt 0 i args then some (fieldAt (1 + 4 * i) 4 args) else none

/-! ## Octets of coded values (chapter 12) -/

def LockReason.code : LockReason → Octet
  | .curveInvalid => 0x01
  | .curveDamaged => 0x02
  | .curveMissing => 0x03
  | .sweepRange => 0x04

def Service.code : Service → Octet
  | .off => 0x00
  | .active => 0x01
  | .fault => 0x02

def Level.code : Level → Octet
  | .unheard => 0x00
  | .low => 0x01
  | .near => 0x02
  | .full => 0x03

def BinKind.code : BinKind → Octet
  | .litter => 0x00
  | .glass => 0x01

def NoticeKind.code : NoticeKind → Octet
  | .full => 0x01
  | .emptied => 0x02
  | .stale => 0x03
  | .back => 0x04
  | .fallen => 0x05
  | .upright => 0x06
  | .fault => 0x07

def Bank.code : Bank → Octet
  | .a => 0x00
  | .b => 0x01

def Direction.code : Direction → Octet
  | .up => 0x00
  | .down => 0x01

def SweepState.code : SweepState → Octet
  | .idle => 0x00
  | .running => 0x01
  | .suspended => 0x02

def SweepMode.code : SweepMode → Octet
  | .auto => 0x00
  | .manual => 0x01

def ChannelState.code : ChannelState → Octet
  | .closed => 0x00
  | .opened => 0x01
  | .starved => 0x02

def ChannelMode.code : ChannelMode → Octet
  | .prompt => 0x00
  | .paced => 0x01

def TestMode.code : TestMode → Octet
  | .mix => 0x00
  | .replace => 0x01

def History.code : History → Octet
  | .none => 0x00
  | .unknown => 0xFF
  | .kind k => k.code

/-- A set of condition flags as 2 octets (section 12.5). -/
def flagOctets (v : BitVec 12) : List Octet := beOctets 2 v.toNat

/-! ## Reply contents (section 12.7) -/

/-- The record, laid out as the arguments of BIN LOAD, with the poison bit 0. -/
def recordOctets (bin : Nat) (r : BinRecord) : List Octet :=
  beOctets 2 bin
    ++ [BitVec.ofNat 8 (r.inService.toNat + 2 * r.testBin.toNat + 8 * (if r.kind = .glass then 1 else 0))]
    ++ beOctets 2 r.tag ++ beOctets 1 r.zone ++ beOctets 1 r.curve ++ beOctets 2 r.emptyDepth
    ++ beOctets 2 r.capacity ++ beOctets 2 r.warn ++ beOctets 2 r.collect ++ beOctets 1 r.hysteresis
    ++ beOctets 1 r.weight ++ beOctets 4 (r.silenceLimit.getD 0) ++ [r.selection.setWidth 8]

/-- The lanes heard, best margin and copies octets: copies 0 marks an absent reception, whose other three octets
the manual leaves open (log entry 5). -/
def receptionOctets (free : Nat) : Option Reception → List Octet
  | some r => beOctets 2 r.lanes.toNat ++ [signedOctet r.margin] ++ beOctets 1 r.copies
  | none =>
    [Config.absentReceptionOctet free, Config.absentReceptionOctet (free + 1), Config.absentReceptionOctet (free + 2), 0]

/-- The Fill State block of 27 octets.  Bits to which section 12.7 gives no meaning are sent as 0 (log entry 25: the
model's choice). -/
def fillOctets (free : Nat) (f : FillState) : List Octet :=
  [f.service.code, f.level.code, BitVec.ofNat 8 (f.stale.toNat + 2 * f.fallen.toNat)]
    ++ beOctets 2 (f.filtered.getD 0xFFFF) ++ beOctets 2 (f.lastRaw.getD 0xFFFF) ++ beOctets 2 (f.lastSequence.getD 0xFFFF)
    ++ beOctets 1 f.outOfOrderRun ++ beOctets 1 f.gapCount ++ beOctets 4 f.lastHeard
    ++ [boolOctet f.lastEmptied.isSome] ++ beOctets 4 (f.lastEmptied.getD 0)
    ++ receptionOctets free f.reception ++ beOctets 1 (f.countedZone.getD 0xFF) ++ beOctets 2 f.countedLitres

/-- The segment state of 3 octets: protected, held, and the remaining seconds of the hold timer.  The other bits of its
first octet are sent as 0 (log entry 25: the model's choice). -/
def segmentOctets (isProtected : Bool) (timer : Option Nat) : List Octet :=
  [BitVec.ofNat 8 (isProtected.toNat + 2 * timer.isSome.toNat)] ++ beOctets 2 (timer.getD 0)

/-- A list of points, 4 octets each. -/
def pointOctets (points : List Point) : List Octet :=
  points.flatMap fun p => beOctets 2 p.height ++ beOctets 2 p.fill

/-- One zone of a ZONE READ reply. -/
def zoneOctets (zone : Nat) (t : Tally) : List Octet :=
  beOctets 1 zone ++ beOctets 2 t.members ++ beOctets 2 t.full ++ beOctets 2 t.near ++ beOctets 2 t.stale
    ++ beOctets 2 t.fallen ++ beOctets 2 t.fault ++ beOctets 4 t.litres ++ beOctets 4 t.reference

/-- The sweep block of 13 octets. -/
def sweepOctets (e : SweepEngine) : List Octet :=
  [e.state.code, e.mode.code] ++ beOctets 2 e.first ++ beOctets 2 e.last ++ [e.direction.code]
    ++ beOctets 2 e.cursor ++ beOctets 2 e.visited ++ beOctets 2 e.found

/-- The seven parameters, 4 octets each, in the order of the table of section 10.5. -/
def paramOctets (p : Params) : List Octet :=
  beOctets 4 p.dedupHold ++ beOctets 4 p.silenceLimit ++ beOctets 4 p.sweepInterval ++ beOctets 4 p.pacePeriod
    ++ beOctets 4 p.emptiedDrop ++ beOctets 4 p.summaryStep ++ beOctets 4 p.holdLimit

/-- The arguments of the last TEST START, laid out as its arguments. -/
def testArgOctets (a : TestArgs) : List Octet :=
  beOctets 2 a.first ++ beOctets 2 a.last ++ beOctets 2 a.tag ++ beOctets 2 a.startDistance ++ beOctets 2 a.step
    ++ beOctets 2 a.interval ++ [a.mode.code]

/-- A lock reason and its number; NONE and 0 while unlocked (R146). -/
def lockOctets (lock : Option (LockReason × Nat)) : List Octet :=
  match lock with
  | none => [0x00] ++ beOctets 2 0
  | some (reason, number) => [reason.code] ++ beOctets 2 number

/-! ## REPORT and NOTICE payloads (sections 12.4 and 12.5) -/

/-- A zone summary record: the zone and the seven live fields of its tally (R108). -/
def summaryOctets (zone : Nat) (t : Tally) : List Octet :=
  [0x00] ++ beOctets 1 zone ++ beOctets 2 t.members ++ beOctets 2 t.full ++ beOctets 2 t.near ++ beOctets 2 t.stale
    ++ beOctets 2 t.fallen ++ beOctets 2 t.fault ++ beOctets 4 t.litres

/-- A bin notice record. -/
def noticeOctets (n : Notice) : List Octet :=
  [n.notice.code] ++ beOctets 2 n.bin ++ beOctets 1 n.zone
    ++ [match n.kind with
        | none => 0xFF
        | some k => k.code]
    ++ beOctets 2 (n.filtered.getD 0xFFFF) ++ [n.level.code]
    ++ [BitVec.ofNat 8 (n.stale.toNat + 2 * n.fallen.toNat + 4 * n.test.toNat)] ++ beOctets 4 n.partTime

/-- The REPORT frame of a channel (R108): `records` are the records' octets in queue order. -/
def reportFrameOf (destination channel partTime creditLeft : Nat) (records : List (List Octet)) : Frame where
  cls := classReport
  payload :=
    beOctets 2 destination ++ beOctets 1 channel ++ beOctets 4 partTime ++ beOctets 1 creditLeft
      ++ beOctets 1 records.length ++ records.flatten

/-- The CREDIT-OUT notice frame (R110). -/
def CreditOut.frame (station : Nat) (n : CreditOut) : Frame where
  cls := classNotice
  payload :=
    beOctets 2 n.destination ++ [0x02] ++ beOctets 1 station ++ beOctets 1 n.channel ++ beOctets 4 n.partTime
      ++ beOctets 1 n.queueLength ++ beOctets 2 n.lost

/-- The condition notice frame (R155). -/
def conditionFrame (destination station partTime : Nat) (alert raised : BitVec 12) : Frame where
  cls := classNotice
  payload :=
    beOctets 2 destination ++ [0x01] ++ beOctets 1 station ++ beOctets 4 partTime ++ flagOctets alert ++ flagOctets raised

end Sys2Proof.Machine
end

