-- ==== Sys2Proof/Machine/Ops.lean ====
section
/-! DEFINITION. The shared operations over the part's state: clock and settings, conditions, bins and segments, the
table port and its accesses, curve slots, requests and replies, the lock, and the trunk egress arbiter. -/

namespace Sys2Proof.Machine

/-! ## Clock, counters, flags -/

/-- Part Time (R148). -/
def State.now (s : State) : Nat := s.mgmt.partTime

/-- Change the three reporting blocks. -/
def State.onReport (f : Reporting → Reporting) (s : State) : State := { s with report := f s.report }

/-- Count on a statistics counter (R157). -/
def State.count (c : Ctr) (amount : Nat) (s : State) : State := s.onReport (Reporting.count c amount)

/-- Raise a sticky condition flag (R153). -/
def State.raise (f : Flag) (s : State) : State := s.onReport (Reporting.raise f)

/-- The raised flags: the sticky ones, and LOCKED as the lock state makes it (R153). -/
def State.raisedFlags (s : State) : BitVec 12 :=
  if s.mgmt.lock.isSome then Bits.put Flag.locked.index s.report.conditions.raised
  else Bits.drop Flag.locked.index s.report.conditions.raised

/-- The alert set: the flags both raised and enabled (R153). -/
def State.alertSet (s : State) : BitVec 12 := s.raisedFlags &&& s.report.conditions.enabled

/-- ALERT_N is driven low while the alert set holds a flag (R153). -/
def State.alertLow (s : State) : Bool := s.alertSet != 0

/-! ## Bins and segments -/

/-- The segment of a bin (R1). -/
def segmentOf (bin : Nat) : Nat := bin / Config.segmentSize

/-- A bin, by its number. -/
def State.bin (number : Nat) (s : State) : Bin := Table.get Bin.reset number s.table.bins

/-- Write a bin. -/
def State.setBin (number : Nat) (b : Bin) (s : State) : State :=
  { s with table := { s.table with bins := Table.set Bin.reset number b s.table.bins } }

/-- A bin's segment is protected (R11). -/
def State.isProtected (bin : Nat) (s : State) : Bool := Bits.has (segmentOf bin) s.table.protectedSegments

/-- A bin's segment is held (R12). -/
def State.isHeld (bin : Nat) (s : State) : Bool := Table.has (segmentOf bin) s.table.held

/-- The remaining seconds of a held segment's timer. -/
def BinTable.timer (segment : Nat) (t : BinTable) : Option Nat :=
  if Table.has segment t.held then some (Table.get 0 segment t.held) else none

/-- Every Park List entry of a bin in the segment is marked released (R13, R14). -/
def BinTable.release (segment : Nat) (t : BinTable) : BinTable :=
  { t with
    held := Table.erase segment t.held
    park := t.park.map fun p => if segmentOf p.reading.bin = segment then { p with released := true } else p }

/-- The Park List holds an entry marked released (R45). -/
def State.hasReleased (s : State) : Bool := s.table.park.any (·.released)

/-! ## Contribution changes and notices -/

/-- The contribution change of a write, handed on in its access (R5, R86, R91). -/
def State.postChange (old new : FillState) (s : State) : State :=
  s.onReport (Reporting.applyChange s.now s.mgmt.params.summaryStep old.contribution new.contribution)

/-- The bit of a notice kind in a notice selection (section 12.3); a FAULT notice has none. -/
def NoticeKind.selectionBit : NoticeKind → Option Nat
  | .full => some 0
  | .emptied => some 1
  | .stale => some 2
  | .back => some 3
  | .fallen => some 4
  | .upright => some 5
  | .fault => none

/-- A notice kind is selected; FAULT always is (R83). -/
def NoticeKind.selected (selection : BitVec 6) (k : NoticeKind) : Bool :=
  match k.selectionBit with
  | none => true
  | some i => Bits.has i selection

/-- The notice of a bin, all its fields taken when it is made (R82).  A bin with no counted zone has none: R5 says
that an ACTIVE or FAULT bin, the only kind a notice is made for, always has one. -/
def FillState.notice (kind : NoticeKind) (bin : Nat) (binKind : Option BinKind) (now : Nat) (test : Bool)
    (f : FillState) : Option Notice :=
  f.countedZone.map fun zone =>
    { notice := kind, bin := bin, zone := zone, kind := binKind, filtered := f.filtered, level := f.level
      stale := f.stale, fallen := f.fallen, partTime := now, test := test }

/-- Make a notice of a bin from its Fill State after the write, subject to a selection (R82, R83). -/
def State.notify (selection : BitVec 6) (bin : Nat) (binKind : Option BinKind) (test : Bool) (f : FillState)
    (s : State) (kind : NoticeKind) : State :=
  match f.notice kind bin binKind s.now test with
  | none => s
  | some n => s.onReport (Reporting.notify s.now (kind.selected selection) n)

/-! ## Record ECC, repair and FAULT (R6 to R8) -/

/-- What an access does with the record: a record read tests it and a damaged record puts an ACTIVE bin in FAULT;
a fill write tests it only in a repair; a load tests it and leaves FAULT out (R6 to R8, R20). -/
inductive AccessKind where
  | read | write | load
deriving DecidableEq, Repr

/-- What the test of the record finds. -/
inductive Finding where
  | good | corrected | damaged
deriving DecidableEq, Repr

/-- The bits in error after the wear that came since the last access.  A record or curve with two bits in error
stays uncorrectable until it is written anew (R6, R29). -/
def worn (w : Wear) (badBits : Nat) : Nat :=
  match w with
  | .steady => badBits
  | .oneFails => min (badBits + 1) 2
  | .twoFail => 2
  | .recovers => if badBits = 1 then 0 else badBits

/-- What an access finds: with a repair mark, the repair read of R7 decides; otherwise an access that reads the
record tests it (R6). -/
def Bin.finding (kind : AccessKind) (b : Bin) : Finding :=
  if b.repair then
    if 2 ≤ b.badBits then .damaged else .good
  else if kind = .write then .good
  else if b.badBits = 0 then .good
  else if b.badBits = 1 then .corrected
  else .damaged

/-- The stored record after the test: a repair clears the mark and rewrites a correctable record with a fresh
check (R7); a correctable record found without a mark gets one (R6). -/
def Bin.tested (kind : AccessKind) (b : Bin) : Bin :=
  if b.repair then
    if 2 ≤ b.badBits then { b with repair := false } else { b with repair := false, badBits := 0 }
  else if b.finding kind = .corrected then { b with repair := true }
  else b

/-- The Fill State on entry to FAULT (R8). -/
def FillState.faulted (f : FillState) : FillState :=
  { f with
    service := .fault, level := .unheard, filtered := none, lastRaw := none, stale := false, fallen := false
    countedLitres := 0 }

/-- A bin found damaged enters FAULT when it is ACTIVE, with its contribution change and then its FAULT notice
(R8, R78). -/
def State.enterFault (number : Nat) (test : Bool) (s : State) : State :=
  let b := s.bin number
  if b.fill.service = .active then
    ((s.setBin number { b with fill := b.fill.faulted }).postChange b.fill b.fill.faulted).notify 0 number none test
      b.fill.faulted .fault
  else s

/-- The bin as an access finds it, after its wear. -/
def State.wornBin (number : Nat) (w : Wear) (s : State) : Bin :=
  { s.bin number with badBits := worn w (s.bin number).badBits }

/-- What an access to a bin finds. -/
def State.finding (kind : AccessKind) (number : Nat) (w : Wear) (s : State) : Finding :=
  (s.wornBin number w).finding kind

/-- The opening of every access to a bin: the repair or the test of its record, with the counts, flags and FAULT
entry that follow (R6 to R8).  `test` is the test marker of a FAULT notice (R84). -/
def State.access (kind : AccessKind) (test : Bool) (number : Nat) (w : Wear) (s : State) : State :=
  let t := s.setBin number ((s.wornBin number w).tested kind)
  match s.finding kind number w with
  | .good => t
  | .corrected => (t.count .recordCorrection 1).raise .eccFix
  | .damaged =>
    let u := (t.count .recordDamage 1).raise .eccDamage
    if kind = .load then u else u.enterFault number test

/-! ## The table port (R9, R10) -/

/-- A requester has an access pending. -/
def State.portPending (s : State) : Requester → Bool
  | .readingUnit =>
    match s.reader with
    | .fetch _ => true
    | .runWrite _ _ _ => true
    | .apply _ _ => true
    | .idle => false
    | .compute _ => false
  | .arrivalFilter => s.filter.retiring.isSome
  | .sweepEngine => s.sweep.stage != .none
  | .managementUnit =>
    match s.mgmt.stage with
    | .load _ _ _ => true
    | .converted _ => true
    | .binRead _ => true
    | .scan _ => true
    | _ => false

/-- The requesters in the cyclic order that follows the one granted last (R10). -/
def Requester.order : Requester → List Requester
  | .managementUnit => [.readingUnit, .arrivalFilter, .sweepEngine, .managementUnit]
  | .readingUnit => [.arrivalFilter, .sweepEngine, .managementUnit, .readingUnit]
  | .arrivalFilter => [.sweepEngine, .managementUnit, .readingUnit, .arrivalFilter]
  | .sweepEngine => [.managementUnit, .readingUnit, .arrivalFilter, .sweepEngine]

/-- The requester that the arbiter grants next, if any access is pending (R10). -/
def State.portGrant (s : State) : Option Requester := s.table.lastGrant.order.find? s.portPending

/-- The arbiter records its grant. -/
def State.granted (r : Requester) (s : State) : State := { s with table := { s.table with lastGrant := r } }

/-! ## Curve slots (R29) -/

/-- The bank that is not active (R28). -/
def Bank.other : Bank → Bank
  | .a => .b
  | .b => .a

/-- A bank's slots. -/
def CurveStore.bank (name : Bank) (c : CurveStore) : Table Slot :=
  match name with
  | .a => c.bankA
  | .b => c.bankB

/-- A slot of a bank. -/
def CurveStore.slot (name : Bank) (number : Nat) (c : CurveStore) : Slot :=
  Table.get Slot.absent number (c.bank name)

/-- Write a slot of a bank. -/
def CurveStore.setSlot (name : Bank) (number : Nat) (v : Slot) (c : CurveStore) : CurveStore :=
  match name with
  | .a => { c with bankA := Table.set Slot.absent number v c.bankA }
  | .b => { c with bankB := Table.set Slot.absent number v c.bankB }

/-- A slot is present (R26). -/
def Slot.present (v : Slot) : Bool := !v.points.isEmpty

/-- What a slot access that reads finds after its wear: an absent slot is not tested, and a damage mark decides
without a test (R29). -/
def Slot.finding (w : Wear) (v : Slot) : Finding :=
  if !v.present then .good
  else if v.damaged then .damaged
  else if worn w v.badBits = 0 then .good
  else if worn w v.badBits = 1 then .corrected
  else .damaged

/-- The slot after an access that reads it: a correctable curve is rewritten with a fresh check, an uncorrectable
one marked damaged (R29). -/
def Slot.tested (w : Wear) (v : Slot) : Slot :=
  if !v.present || v.damaged then v
  else if worn w v.badBits ≤ 1 then { v with badBits := 0 }
  else { v with badBits := 2, damaged := true }

/-- What a slot access finds. -/
def State.slotFinding (name : Bank) (number : Nat) (w : Wear) (s : State) : Finding :=
  (s.curves.slot name number).finding w

/-- A slot access that reads: the slot rewritten or marked, and its count and flag; damage known from the mark is
not counted again (R29). -/
def State.slotAccess (name : Bank) (number : Nat) (w : Wear) (s : State) : State :=
  let v := s.curves.slot name number
  let t := { s with curves := s.curves.setSlot name number (v.tested w) }
  match v.finding w with
  | .good => t
  | .corrected => (t.count .curveCorrection 1).raise .eccFix
  | .damaged => if v.damaged then t else (t.count .curveDamage 1).raise .eccDamage

/-! ## Requests and replies (chapter 10) -/

/-- Change the Management Unit. -/
def State.onMgmt (f : ManagementUnit → ManagementUnit) (s : State) : State := { s with mgmt := f s.mgmt }

/-- The history entry of a request (R147). -/
def historyOf (kind : Octet) : History :=
  match RequestKind.ofCode kind with
  | none => .unknown
  | some k => .kind k

/-- The reply to the head request is placed in the reply slot, and the command history takes the request (R144,
R147). -/
def State.reply (result : ResultCode) (content : List Octet) (s : State) : State :=
  match s.mgmt.queue with
  | [] => s
  | r :: _ =>
    s.onMgmt fun m =>
      { m with
        reply := some { destination := r.source, tag := r.tag, kind := r.kind, result := result, content := content }
        stage := .idle, older := m.newer, newer := historyOf r.kind }

/-- The request that the Management Unit may take: the head of the queue, while it serves none and the reply slot
is empty (R143, R144). -/
def State.takeable (s : State) : Option Request :=
  if s.mgmt.stage = .idle ∧ s.mgmt.reply = none then s.mgmt.queue.head? else none

/-- Take the head request when it is of kind `k`, judge its length, and serve it (R144).  `bare` is the content of
a BAD-REQUEST reply, empty but for CURVE READ (section 12.7).  When no such request can be taken the step does not
come about, and nothing changes. -/
def State.serve (k : RequestKind) (bare : List Octet) (rule : List Octet → State → State) (s : State) : State :=
  match s.takeable with
  | none => s
  | some r =>
    if RequestKind.ofCode r.kind = some k then
      if r.args.length = k.argLength r.args then rule r.args s else s.reply .badRequest bare
    else s

/-- The lock test of a table-changing request comes before every value check (R144, R146). -/
def State.unlessLocked (rule : State → State) (s : State) : State :=
  if s.mgmt.lock.isSome then s.reply .locked (lockOctets s.mgmt.lock) else rule s

/-- The Management Unit is locked with a reason and a number, LOCKED rises, and the reply LOCKED carries both
(R36, R122, R146). -/
def State.lockAndReply (reason : LockReason) (number : Nat) (s : State) : State :=
  ((s.onMgmt fun m => { m with lock := some (reason, number) }).onReport fun r =>
    { r with conditions := r.conditions.lockRises }).reply .locked (lockOctets (some (reason, number)))

/-! ## Transmitters and the trunk egress arbiter (R132, R140, R141) -/

/-- TRK_TX takes a frame (R132). -/
def State.sendTrunk (f : Frame) (s : State) : State := { s with trunk := { s.trunk with tx := some f.octets } }

/-- FLD_TX takes a frame (R132). -/
def State.sendField (f : Frame) (s : State) : State := { s with field := { s.field with tx := some f.octets } }

/-- What the arbiter may grant. -/
inductive EgressSource where
  | passThrough | reply | refusal | notice
  | channel (number : Nat)
deriving DecidableEq, Repr

/-- The channel numbers in the round-robin order that follows the channel granted last (R141). -/
def channelsAfter (last : Nat) : List Nat := channelNumbers.map fun i => (last + 1 + i) % 8

/-- The first source of own frames that holds a waiting frame (R141). -/
def State.ownSource (s : State) : Option EgressSource :=
  if s.mgmt.reply.isSome then some .reply
  else if s.trunk.refusal.isSome then some .refusal
  else if s.report.conditions.noticeWaiting && s.report.conditions.address.isSome then some .notice
  else
    ((channelsAfter s.trunk.lastChannel).find? fun n => (s.report.channel n).requests).map EgressSource.channel

/-- What the arbiter grants next (R140): the class it did not grant last when frames of both wait. -/
def State.egressGrant (s : State) : Option EgressSource :=
  match s.ownSource, s.trunk.passThrough with
  | none, [] => none
  | some own, [] => some own
  | none, _ :: _ => some .passThrough
  | some own, _ :: _ =>
    match s.trunk.lastClass with
    | .own => some .passThrough
    | .passThrough => some own

/-- The arbiter records the class of its grant (R140). -/
def State.grantedClass (c : EgressClass) (s : State) : State := { s with trunk := { s.trunk with lastClass := c } }

/-- The arbiter records the channel of its grant (R141). -/
def State.grantedChannel (n : Nat) (s : State) : State := { s with trunk := { s.trunk with lastChannel := n } }

end Sys2Proof.Machine
end

