-- ==== Sys2Proof/Machine/Arrivals.lean ====
section
/-! DEFINITION. The Arrival Filter: copies, hand-over, retirement and write-back (section 3.1), and the Reading
Unit's taking of a reading (R16, R45). -/

namespace Sys2Proof.Machine

/-- Change the Arrival Filter. -/
def State.onFilter (f : ArrivalFilter → ArrivalFilter) (s : State) : State := { s with filter := f s.filter }

/-- The margin clamped into −20 to +30 dB, as a frame is taken from the FIFO (R40). -/
def clampMargin (margin : Int) : Int := max (-20) (min margin 30)

/-- An entry is that of a transmission: same bin and sequence (R40). -/
def Arrival.isOf (r : Reading) (e : Arrival) : Bool := e.bin == r.bin && e.sequence == r.sequence

/-- The list holds an entry of the transmission. -/
def ArrivalFilter.knows (r : Reading) (f : ArrivalFilter) : Bool := f.entries.any (Arrival.isOf r)

/-- A copy merged into its entry (R40). -/
def Arrival.merge (r : Reading) (e : Arrival) : Arrival :=
  { e with lanes := Bits.put r.lane e.lanes, margin := max e.margin (clampMargin r.margin), copies := min (e.copies + 1) 255 }

/-- COPY (R40): the frame at the head of the field ingress FIFO matches an entry, and is merged and dropped. -/
def execCopy (s : State) : Out :=
  match s.field.ingress with
  | [] => .next s
  | r :: rest =>
    if s.filter.knows r then
      .next (((({ s with field := { s.field with ingress := rest } }).onFilter fun f =>
        { f with entries := f.entries.map fun (e : Arrival) => if e.isOf r then e.merge r else e }).count .copy 1))
    else .next s

/-- An exchange of curve banks waits (R37). -/
def State.exchangeWaits (s : State) : Bool := s.mgmt.stage == .exchange

/-- The Reading Unit is ready to take a reading from the Arrival Filter (R45). -/
def State.readerReady (s : State) : Bool := s.reader == .idle && !s.exchangeWaits && !s.hasReleased

/-- The entry created for a new transmission (R41). -/
def newArrival (now : Nat) (r : Reading) : Arrival where
  bin := r.bin
  sequence := r.sequence
  firstArrival := now
  lanes := Bits.put r.lane 0
  margin := clampMargin r.margin
  copies := 1
  generation := none
  due := false

/-- The head entry is due and its retirement has not begun: the Reading Unit takes no reading before it (R42, R56,
log entry 27). -/
def ArrivalFilter.headWaits (f : ArrivalFilter) : Bool :=
  match f.retiring, f.entries with
  | none, e :: _ => e.due
  | _, _ => false

/-- HAND_OVER (R41, R45, R56): a new transmission at the head of the FIFO goes to the ready Reading Unit. -/
def execHandOver (s : State) : Out :=
  match s.field.ingress with
  | [] => .next s
  | r :: rest =>
    if !s.filter.knows r && s.readerReady && !s.filter.headWaits
        && decide (s.filter.entries.length < Config.arrivalRoom) then
      .next
        { s with
          field := { s.field with ingress := rest }
          filter := { s.filter with entries := s.filter.entries ++ [newArrival s.now r] }
          reader :=
            .fetch { reading := { r with margin := clampMargin r.margin }, arrival := s.now, source := .arrivals } }
    else .next s

/-- The reading that the Reading Unit holds (R37); an out-of-order drop is held until its run write is done. -/
def ReadingUnit.holding : ReadingUnit → Option Taken
  | .idle => none
  | .fetch t => some t
  | .runWrite t _ _ => some t
  | .compute a => some a.taken
  | .apply a _ => some a.taken

/-- The Reading Unit still holds the reading made from an entry (R42). -/
def State.inFlight (e : Arrival) (s : State) : Bool :=
  match s.reader.holding with
  | none => false
  | some t => t.source == .arrivals && e.isOf t.reading

/-- The head entry starts its retirement (R43): not applied, it leaves at once; applied, it requests its
write-back. -/
def ArrivalFilter.retireHead (why : Retirement) (f : ArrivalFilter) : ArrivalFilter :=
  match f.entries with
  | [] => f
  | e :: rest =>
    match e.generation with
    | none => { f with entries := rest }
    | some _ => { f with retiring := some why }

/-- ENTRY_DUE (R42, R43): a due head entry retires, unless a retirement is under way or the Reading Unit still
holds its reading. -/
def execEntryDue (s : State) : Out :=
  match s.filter.entries with
  | [] => .next s
  | e :: _ =>
    if s.filter.retiring = none ∧ e.due = true ∧ s.inFlight e = false then
      .next (s.onFilter (ArrivalFilter.retireHead .expiry))
    else .next s

/-- EVICTION (R41, R43): a new transmission waits for room while the Reading Unit is ready and the list is full. -/
def execEviction (s : State) : Out :=
  match s.field.ingress with
  | [] => .next s
  | r :: _ =>
    if !s.filter.knows r && s.readerReady && decide (Config.arrivalRoom ≤ s.filter.entries.length)
        && s.filter.retiring.isNone then
      .next ((s.onFilter (ArrivalFilter.retireHead .eviction)).count .eviction 1)
    else .next s

/-- The reception record of an entry as it stands (R43, R54). -/
def Arrival.reception (e : Arrival) : Reception where
  lanes := e.lanes
  margin := e.margin
  copies := e.copies

/-- The head entry leaves the list, its retirement done (R43). -/
def ArrivalFilter.dropHead (f : ArrivalFilter) : ArrivalFilter where
  entries := f.entries.tail
  retiring := none

/-- WRITE_BACK (R43): the grant of the Arrival Filter's fill write. -/
def execWriteBack (wear : Wear) (s : State) : Out :=
  match s.filter.retiring, s.filter.entries with
  | some _, e :: _ =>
    if s.portGrant = some .arrivalFilter then
      let t := (s.granted .arrivalFilter).access .write false e.bin wear
      let b := t.bin e.bin
      if s.finding .write e.bin wear ≠ .damaged ∧ b.fill.lastSequence = some e.sequence
          ∧ some b.generation = e.generation ∧ t.isHeld e.bin = false then
        .next (((t.setBin e.bin { b with fill := { b.fill with reception := some e.reception } }).onFilter
          ArrivalFilter.dropHead).count .writeBack 1)
      else .next ((t.onFilter ArrivalFilter.dropHead).count .writeBackSkipped 1)
    else .next s
  | _, _ => .next s

/-- The Park List without its oldest released entry, which comes first in the answer (R16). -/
def takeReleased : List Parked → Option (Parked × List Parked)
  | [] => none
  | p :: rest => if p.released then some (p, rest) else (takeReleased rest).map fun q => (q.1, p :: q.2)

/-- TAKE_RELEASED_ENTRY (R16, R45, R56): the idle Reading Unit takes the oldest released Park List entry. -/
def execTakeReleasedEntry (s : State) : Out :=
  match takeReleased s.table.park with
  | none => .next s
  | some (p, rest) =>
    if s.reader = .idle ∧ s.exchangeWaits = false ∧ s.filter.headWaits = false then
      .next
        { s with
          table := { s.table with park := rest }
          reader := .fetch { reading := p.reading, arrival := p.arrival, source := .parkList } }
    else .next s

end Sys2Proof.Machine
end

