-- ==== Sys2Proof/Machine/BinRequests.lean ====
section
/-! DEFINITION. The requests on bins and segments and the table port accesses they take (sections 1.6 to 1.9,
section 5.5). -/

namespace Sys2Proof.Machine

/-! ## BIN LOAD -/

/-- BIN LOAD, steps 3 to 5 of R17, and the field check of R19. -/
def State.serveBinLoad (args : List Octet) (s : State) : State :=
  let number := argBin args
  let record := argRecord args
  if Config.lastBin < number then s.reply .badValue []
  else if s.isProtected number then s.onMgmt fun m => { m with stage := .converted number }
  else if !record.inRange then s.reply .badValue []
  else if record.inService && !(s.curves.slot s.curves.active record.curve).present then s.reply .badValue []
  else s.onMgmt fun m => { m with stage := .load number record (argPoison args) }

/-- BIN_LOAD (R17, R19): the form, lock, value and protection checks. -/
def execBinLoad (s : State) : Out :=
  .next (s.serve .binLoad [] fun args t => t.unlessLocked (State.serveBinLoad args))

/-- The Fill State of a bin taken out of service (R21). -/
def FillState.outOfService (now : Nat) : FillState := { FillState.reset with lastHeard := now }

/-- The Fill State of a bin started afresh (R22). -/
def FillState.fresh (now zone : Nat) : FillState :=
  { FillState.reset with service := .active, lastHeard := now, countedZone := some zone }

/-- The Fill State of a bin that keeps it: litres, level and counted zone follow the new record (R23, R75, R81). -/
def FillState.kept (record : BinRecord) (f : FillState) : FillState :=
  { f with
    countedZone := some record.zone
    countedLitres :=
      match f.filtered with
      | none => 0
      | some filtered => litresOf filtered record.capacity
    level :=
      match f.filtered with
      | none => f.level
      | some filtered => judgeLevel filtered record.warn record.collect record.hysteresis f.level }

/-- The load keeps the Fill State: an ACTIVE bin stays in service with a readable old record of the same tag
(R22, R23). -/
def keepsFill (record : BinRecord) (finding : Finding) (old : Bin) : Bool :=
  record.inService && old.fill.service == .active && finding != .damaged && record.tag == old.record.tag

/-- The Fill State that a load leaves (R21 to R23). -/
def loadedFill (record : BinRecord) (finding : Finding) (now : Nat) (old : Bin) : FillState :=
  if !record.inService then FillState.outOfService now
  else if keepsFill record finding old then old.fill.kept record
  else FillState.fresh now record.zone

/-- The bin that a load leaves (R20): the record replaced whole, the generation advanced, the repair mark cleared,
and the check good, or uncorrectable with the poison option. -/
def loadedBin (record : BinRecord) (poison : Bool) (finding : Finding) (now : Nat) (old : Bin) : Bin where
  record := record
  generation := (old.generation + 1) % 256
  repair := false
  badBits := if poison then 2 else 0
  fill := loadedFill record finding now old

/-- The notices of a load (R81, R83): FULL when a kept bin's level enters FULL. -/
def loadNotices (record : BinRecord) (finding : Finding) (old new : Bin) : List NoticeKind :=
  if keepsFill record finding old && new.fill.level == .full && old.fill.level != .full then [.full] else []

/-- The load of a BIN LOAD in its grant, after the old record has been tested (R20 to R23, R80, R81). -/
def State.load (number : Nat) (record : BinRecord) (poison : Bool) (finding : Finding) (s : State) : State :=
  let old := s.bin number
  let new := loadedBin record poison finding s.now old
  let t := (s.setBin number new).postChange old.fill new.fill
  ((loadNotices record finding old new).foldl
    (State.notify record.selection number (some record.kind) false new.fill) t).reply .done
      (recordOctets number record ++ beOctets 1 new.generation)

/-- LOAD_GRANT (R20). -/
def execLoadGrant (wear : Wear) (s : State) : Out :=
  match s.mgmt.stage with
  | .load number record poison =>
    if s.portGrant = some .managementUnit then
      .next (((s.granted .managementUnit).access .load false number wear).load number record poison
        (s.finding .load number wear))
    else .next s
  | _ => .next s

/-- CONVERTED_READ (R18). -/
def execConvertedRead (wear : Wear) (s : State) : Out :=
  match s.mgmt.stage with
  | .converted number =>
    if s.portGrant = some .managementUnit then
      let t := (s.granted .managementUnit).access .read false number wear
      let b := t.bin number
      if s.finding .read number wear = .damaged then .next (t.reply .damaged (beOctets 1 b.generation))
      else .next (t.reply .doneProtected (recordOctets number b.record ++ beOctets 1 b.generation))
    else .next s
  | _ => .next s

/-! ## BIN READ -/

/-- BIN READ before its access (R24). -/
def State.serveBinRead (args : List Octet) (s : State) : State :=
  if Config.lastBin < argBin args then s.reply .badValue []
  else s.onMgmt fun m => { m with stage := .binRead (argBin args) }

/-- BIN_READ (R24). -/
def execBinRead (s : State) : Out := .next (s.serve .binRead [] State.serveBinRead)

/-- The generation, Fill State and segment state that a BIN READ reply carries (R24). -/
def State.binContent (number : Nat) (s : State) : List Octet :=
  beOctets 1 (s.bin number).generation ++ fillOctets s.freeCount (s.bin number).fill
    ++ segmentOctets (s.isProtected number) (s.table.timer (segmentOf number))

/-- The free values that a BIN READ reply uses: three when the bin's reception is absent (log entry 5). -/
def State.useFree (number : Nat) (s : State) : State :=
  if (s.bin number).fill.reception = none then { s with freeCount := s.freeCount + 3 } else s

/-- BIN_READ_ACCESS (R24). -/
def execBinReadAccess (wear : Wear) (s : State) : Out :=
  match s.mgmt.stage with
  | .binRead number =>
    if s.portGrant = some .managementUnit then
      let t := (s.granted .managementUnit).access .read false number wear
      if s.finding .read number wear = .damaged then .next ((t.reply .damaged (t.binContent number)).useFree number)
      else
        .next ((t.reply .done (recordOctets number (t.bin number).record ++ t.binContent number)).useFree number)
    else .next s
  | _ => .next s

/-! ## PROTECT, HOLD, RELEASE -/

/-- PROTECT of an unlocked unit (R11). -/
def State.serveProtect (args : List Octet) (s : State) : State :=
  ({ s with table := { s.table with protectedSegments := argSegments args } }).reply .done
    (beOctets 4 (argSegments args).toNat)

/-- PROTECT (R11). -/
def execProtect (s : State) : Out :=
  .next (s.serve .protect [] fun args t => t.unlessLocked (State.serveProtect args))

/-- Each named segment is held with its timer at the hold limit (R12). -/
def BinTable.hold (limit : Nat) (segments : BitVec 32) (t : BinTable) : BinTable :=
  { t with held := (Bits.members segments).foldl (fun h segment => Table.insert segment limit h) t.held }

/-- The held set as a set of segments. -/
def BinTable.heldSet (t : BinTable) : BitVec 32 := t.held.foldl (fun v e => Bits.put e.1 v) 0

/-- The content of a HOLD reply: the held set, and each timer's remaining seconds (R12). -/
def BinTable.holdContent (t : BinTable) : List Octet :=
  beOctets 4 t.heldSet.toNat ++ t.held.flatMap fun e => beOctets 2 e.2

/-- HOLD (R12). -/
def State.serveHold (args : List Octet) (s : State) : State :=
  let t := { s with table := s.table.hold s.mgmt.params.holdLimit (argSegments args) }
  t.reply .done t.table.holdContent

/-- HOLD (R12). -/
def execHold (s : State) : Out := .next (s.serve .hold [] State.serveHold)

/-- RELEASE (R14). -/
def State.serveRelease (args : List Octet) (s : State) : State :=
  let segment := fieldAt 0 1 args
  if 31 < segment then s.reply .badValue []
  else if Table.has segment s.table.held then ({ s with table := s.table.release segment }).reply .done []
  else s.reply .conflict []

/-- RELEASE (R14). -/
def execRelease (s : State) : Out := .next (s.serve .release [] State.serveRelease)

end Sys2Proof.Machine
end

