-- ==== Sys2Proof/Machine/ChannelRequests.lean ====
section
/-! DEFINITION. The channel requests (section 7.6). -/

namespace Sys2Proof.Machine

/-- A channel request names a channel, 0 to 7; a higher number is answered BAD-VALUE (section 7.6). -/
def State.onChannelNamed (args : List Octet) (rule : Nat → State → State) (s : State) : State :=
  let number := fieldAt 0 1 args
  if 7 < number then s.reply .badValue [] else rule number s

/-- Write a channel. -/
def State.setChannel (number : Nat) (c : Channel) (s : State) : State := s.onReport (Reporting.setChannel number c)

/-- The channel after a CREDIT (R111). -/
def Channel.credited (amount : Nat) (c : Channel) : Channel :=
  { c with
    credit := min (c.credit + amount) Config.creditMax
    state := if c.state = .starved then .opened else c.state }

/-- CREDIT (R111). -/
def State.serveCredit (args : List Octet) (number : Nat) (s : State) : State :=
  let amount := fieldAt 1 1 args
  if amount = 0 then s.reply .badValue []
  else
    let c := (s.report.channel number).credited amount
    (s.setChannel number c).reply .done (beOctets 1 c.credit)

/-- CREDIT (R111). -/
def execCredit (s : State) : Out :=
  .next (s.serve .credit [] fun args t => t.onChannelNamed args (State.serveCredit args))

/-- The channel after a CHANNEL SET (R112). -/
def Channel.configured (destination : Nat) (zones : BitVec 64) (mode : ChannelMode) (c : Channel) : Channel :=
  { c.emptied with state := .opened, destination := destination, zones := zones, mode := mode, lost := 0 }

/-- CHANNEL SET (R112). -/
def State.serveChannelSet (args : List Octet) (number : Nat) (s : State) : State :=
  match channelModeOf (octetAt 11 args) with
  | none => s.reply .badValue []
  | some mode =>
    let c := (s.report.channel number).configured (fieldAt 1 2 args) (BitVec.ofNat 64 (fieldAt 3 8 args)) mode
    (s.setChannel number c).reply .done (beOctets 1 c.credit)

/-- CHANNEL_SET (R112). -/
def execChannelSet (s : State) : Out :=
  .next (s.serve .channelSet [] fun args t => t.onChannelNamed args (State.serveChannelSet args))

/-- The channel after a CHANNEL CLOSE (R113). -/
def Channel.shut (c : Channel) : Channel := { c.emptied with state := .closed, credit := 0 }

/-- CHANNEL_CLOSE (R113). -/
def execChannelClose (s : State) : Out :=
  .next (s.serve .channelClose [] fun args t => t.onChannelNamed args fun number u =>
    (u.setChannel number (u.report.channel number).shut).reply .done [])

/-- SYNC's offers to one channel, zone by zone, and what became of each (R114). -/
def Reporting.syncZones (now number : Nat) : List Nat → Reporting → Reporting × List ZoneOffer
  | [], r => (r, [])
  | zone :: rest, r =>
    let c := r.channel number
    let next := Reporting.syncZones now number rest ((r.setChannel number (c.takeZone zone)).settle now number)
    (next.1, c.judgeZone zone :: next.2)

/-- The three numbers of a SYNC reply (R114). -/
def syncCounts (offers : List ZoneOffer) : List Octet :=
  beOctets 1 (offers.count .queued) ++ beOctets 1 (offers.count .coalesced + offers.count .alreadyOwed)
    ++ beOctets 1 (offers.count .owed)

/-- SYNC (R114). -/
def State.serveSync (number : Nat) (s : State) : State :=
  let c := s.report.channel number
  if c.state = .closed then s.reply .conflict []
  else
    let synced := s.report.syncZones s.now number (Bits.members c.zones)
    ({ s with report := synced.1 }).reply .done (syncCounts synced.2)

/-- SYNC (R114). -/
def execSync (s : State) : Out := .next (s.serve .sync [] fun args t => t.onChannelNamed args State.serveSync)

/-- The content of a CHANNEL READ reply (R115).  Bits 2 to 7 of its flag octet are sent as 0 (log entry 25: the model's
choice). -/
def Channel.readContent (pacePeriod : Nat) (c : Channel) : List Octet :=
  [c.state.code] ++ beOctets 2 c.destination ++ beOctets 8 c.zones.toNat ++ [c.mode.code] ++ beOctets 1 c.credit
    ++ beOctets 1 c.queue.length
    ++ beOctets 1 (c.queue.filter fun e => match e.item with | .summary _ => true | .notice _ => false).length
    ++ beOctets 1 (match c.mode with | .prompt => 0 | .paced => c.eligible)
    ++ beOctets 8 c.owed.toNat ++ beOctets 2 c.lost
    ++ [BitVec.ofNat 8 (c.creditOut.isSome.toNat + 2 * c.requests.toNat)] ++ beOctets 4 pacePeriod

/-- CHANNEL_READ (R115). -/
def execChannelRead (s : State) : Out :=
  .next (s.serve .channelRead [] fun args t => t.onChannelNamed args fun number u =>
    u.reply .done ((u.report.channel number).readContent u.mgmt.params.pacePeriod))

end Sys2Proof.Machine
end

