-- ==== Sys2Proof/Machine/ConditionRequests.lean ====
section
/-! DEFINITION. The requests on condition flags and statistics (R154, R157). -/

namespace Sys2Proof.Machine

/-- Change the Condition Unit. -/
def State.onConditions (f : ConditionUnit → ConditionUnit) (s : State) : State :=
  s.onReport fun r => { r with conditions := f r.conditions }

/-- The alert address octets of a reply: presence, and the address or 0. -/
def addressOctets (address : Option Nat) : List Octet := [boolOctet address.isSome] ++ beOctets 2 (address.getD 0)

/-- The Condition Unit after an ALERT SET (R154, R155): the enable set replaced, the address as chosen, a waiting
notice withdrawn without an address, and a flag newly brought into the alert set judged as a gain. -/
def ConditionUnit.alertSet (enabled : BitVec 12) (address : Option Nat) (raised : BitVec 12) (u : ConditionUnit) :
    ConditionUnit :=
  let v :=
    { u with enabled := enabled, address := address, noticeWaiting := u.noticeWaiting && address.isSome }
  if raised &&& enabled &&& ~~~u.enabled = 0 then v else v.gain

/-- ALERT SET (R154). -/
def State.serveAlertSet (args : List Octet) (s : State) : State :=
  match alertAddressOf (octetAt 2 args) (fieldAt 3 2 args) s.report.conditions.address with
  | none => s.reply .badValue []
  | some address =>
    let enabled := BitVec.ofNat 12 (fieldAt 0 2 args)
    (s.onConditions (ConditionUnit.alertSet enabled address s.raisedFlags)).reply .done
      (flagOctets enabled ++ addressOctets address)

/-- ALERT_SET (R154). -/
def execAlertSet (s : State) : Out := .next (s.serve .alertSet [] State.serveAlertSet)

/-- The content of an ALERT READ reply (R154). -/
def State.alertContent (s : State) : List Octet :=
  flagOctets s.raisedFlags ++ flagOctets s.report.conditions.enabled ++ flagOctets s.alertSet
    ++ addressOctets s.report.conditions.address ++ beOctets 1 (s.report.conditions.holdoff.getD 0)
    ++ [boolOctet s.report.conditions.noticeWaiting] ++ flagOctets s.report.conditions.lastSent

/-- ALERT_READ (R154). -/
def execAlertRead (s : State) : Out := .next (s.serve .alertRead [] fun _ t => t.reply .done t.alertContent)

/-- ALERT CLEAR (R154): LOCKED is not among the sticky flags and stays as the lock state makes it. -/
def State.serveAlertClear (args : List Octet) (s : State) : State :=
  let mask := BitVec.ofNat 12 (fieldAt 0 2 args)
  let t := s.onConditions fun u => { u with raised := u.raised &&& ~~~mask }
  t.reply .done (flagOctets t.raisedFlags)

/-- ALERT_CLEAR (R154). -/
def execAlertClear (s : State) : Out := .next (s.serve .alertClear [] State.serveAlertClear)

/-- SNAPSHOT (R157). -/
def State.serveSnapshot (args : List Octet) (s : State) : State :=
  match zeroOptionOf (octetAt 0 args) with
  | none => s.reply .badValue []
  | some zero => (s.onConditions (ConditionUnit.snapshot zero s.now)).reply .done (beOctets 4 s.now)

/-- SNAPSHOT (R157). -/
def execSnapshot (s : State) : Out := .next (s.serve .snapshot [] State.serveSnapshot)

/-- One counter of a STATS READ reply: snapshot value and changed flag (section 12.6). -/
def counterOctets (k : Counter) : List Octet := beOctets 4 k.snap ++ [boolOctet k.changed]

/-- STATS READ (R157). -/
def State.serveStatsRead (args : List Octet) (s : State) : State :=
  let first := fieldAt 0 1 args
  let count := fieldAt 1 1 args
  if count = 0 ∨ 32 < count ∨ counterCount ≤ first ∨ counterCount < first + count then s.reply .badValue []
  else
    s.reply .done
      (beOctets 4 s.report.conditions.snapshotTime
        ++ (List.range count).flatMap fun i => counterOctets (s.report.conditions.counter (first + i)))

/-- STATS_READ (R157). -/
def execStatsRead (s : State) : Out := .next (s.serve .statsRead [] State.serveStatsRead)

end Sys2Proof.Machine
end

