-- ==== Sys2Proof/Machine/CurveRequests.lean ====
section
/-! DEFINITION. The curve requests, the bin scan and the exchange of the banks (chapter 2). -/

namespace Sys2Proof.Machine

/-- The values of a CURVE LOAD are in range (R32, step 3). -/
def curveInRange (slot count : Nat) (points : List Point) : Bool :=
  slot ≤ 31 && count != 1 && count ≤ 9 && points.all fun p => decide (p.height ≤ 3000) && decide (p.fill ≤ 1000)

/-- CURVE LOAD, steps 3 and 4 of R32. -/
def State.serveCurveLoad (args : List Octet) (s : State) : State :=
  let slot := fieldAt 0 1 args
  let points := argPoints (args.drop 2)
  if curveInRange slot (fieldAt 1 1 args) points then
    let bank := s.curves.active.other
    ({ s with
        curves := s.curves.setSlot bank slot { points := points, badBits := 0, damaged := false } }).reply .done [bank.code]
  else s.reply .badValue []

/-- CURVE_LOAD (R32). -/
def execCurveLoad (s : State) : Out :=
  .next (s.serve .curveLoad [] fun args t => t.unlessLocked (State.serveCurveLoad args))

/-- CURVE READ (R33): every reply names the active bank. -/
def State.serveCurveRead (wear : Wear) (args : List Octet) (s : State) : State :=
  let active := s.curves.active.code
  let slot := fieldAt 1 1 args
  match bankOf (octetAt 0 args) with
  | none => s.reply .badValue [active]
  | some bank =>
    if 31 < slot then s.reply .badValue [active]
    else
      let v := s.curves.slot bank slot
      let t := s.slotAccess bank slot wear
      if v.finding wear = .damaged then t.reply .damaged [active]
      else t.reply .done ([active] ++ beOctets 1 v.points.length ++ pointOctets v.points)

/-- CURVE_READ (R33). -/
def execCurveRead (wear : Wear) (s : State) : Out :=
  .next (s.serve .curveRead [s.curves.active.code] (State.serveCurveRead wear))

/-- The slot test of a swap, slot by slot; the first slot that fails ends it with the lock reason and its number
(R34). -/
def State.testSlots (bank : Bank) : List Nat → List Wear → State → State × Option (LockReason × Nat)
  | [], _, s => (s, none)
  | slot :: rest, wear, s =>
    let w := wear.headD .steady
    let v := s.curves.slot bank slot
    if v.present then
      let t := s.slotAccess bank slot w
      if v.finding w = .damaged then (t, some (.curveDamaged, slot))
      else if shapeHolds v.points then State.testSlots bank rest wear.tail t
      else (t, some (.curveInvalid, slot))
    else State.testSlots bank rest wear.tail s

/-- CURVE SWAP of an unlocked unit up to its bin scan (R34). -/
def State.serveCurveSwap (wear : List Wear) (s : State) : State :=
  let tested := s.testSlots s.curves.active.other (List.range 32) wear
  match tested.2 with
  | some (reason, number) => tested.1.lockAndReply reason number
  | none => tested.1.onMgmt fun m => { m with stage := .scan 0 }

/-- CURVE_SWAP (R34, R36). -/
def execCurveSwap (wear : List Wear) (s : State) : Out :=
  .next (s.serve .curveSwap [] fun _ t => t.unlessLocked (State.serveCurveSwap wear))

/-- The bin scan goes on with the next bin, or waits for the exchange after the last (R35, R37). -/
def State.scanOn (number : Nat) (s : State) : State :=
  s.onMgmt fun m => { m with stage := if number = Config.lastBin then .exchange else .scan (number + 1) }

/-- BIN_SCAN (R35, R36): one record read of the bin scan. -/
def execBinScan (wear : Wear) (s : State) : Out :=
  match s.mgmt.stage with
  | .scan number =>
    if s.portGrant = some .managementUnit then
      let t := (s.granted .managementUnit).access .read false number wear
      let b := t.bin number
      if s.finding .read number wear ≠ .damaged ∧ b.fill.service = .active
          ∧ (t.curves.slot t.curves.active.other b.record.curve).present = false then
        .next (t.lockAndReply .curveMissing number)
      else .next (t.scanOn number)
    else .next s
  | _ => .next s

/-- BANK_EXCHANGE (R37): the waiting exchange is made while the Reading Unit is between readings. -/
def execBankExchange (s : State) : Out :=
  if s.mgmt.stage = .exchange ∧ s.reader = .idle then
    let t := { s with curves := { s.curves with active := s.curves.active.other } }
    .next (t.reply .done [t.curves.active.code])
  else .next s

end Sys2Proof.Machine
end

