-- ==== Sys2Proof/Machine/Links.lean ====
section
/-! DEFINITION. The two links: receivers, the judgement of received frames, the FIFOs and queues (chapter 9). -/

namespace Sys2Proof.Machine

/-! ## Receivers (R133) -/

/-- What a receiver does with one octet: it goes on, it has received a frame, or it meets a receive error with
the octets that are to be taken again. -/
inductive RxEvent where
  | goOn (rx : Receiver)
  | received (rx : Receiver) (frame : Frame)
  | error (rx : Receiver) (again : List Octet)
deriving DecidableEq, Repr

/-- A receiver in HUNT that holds nothing. -/
def Receiver.hunting : Receiver := ⟨.hunt, []⟩

/-- The length octet of the frame under way. -/
def Receiver.length (rx : Receiver) : Nat := (octetAt 0 rx.taken).toNat

/-- The frame whose length, class, payload and CRC octets have been taken, judged by its CRC (R133). -/
def judgeCrc (taken : List Octet) : RxEvent :=
  let size := 2 + (octetAt 0 taken).toNat
  if crc16 (taken.take size) = BitVec.ofNat 16 (beValue (taken.drop size)) then
    .received Receiver.hunting { cls := octetAt 1 taken, payload := (taken.take size).drop 2 }
  else .error Receiver.hunting taken

/-- The table of R133: what the receiver does with the octet it takes. -/
def Receiver.take (rx : Receiver) (octet : Octet) : RxEvent :=
  let taken := rx.taken ++ [octet]
  match rx.state with
  | .hunt => .goOn (if octet = 0xA5 then ⟨.pair, []⟩ else ⟨.hunt, []⟩)
  | .pair =>
    .goOn (if octet = 0x3C then ⟨.length, []⟩ else if octet = 0xA5 then ⟨.pair, []⟩ else ⟨.hunt, []⟩)
  | .length => if octet.toNat ≤ Config.payloadMax then .goOn ⟨.cls, taken⟩ else .error Receiver.hunting taken
  | .cls => .goOn ⟨if rx.length = 0 then .crc else .payload, taken⟩
  | .payload => .goOn ⟨if taken.length = 2 + rx.length then .crc else .payload, taken⟩
  | .crc => if taken.length = 4 + rx.length then judgeCrc taken else .goOn ⟨.crc, taken⟩

/-- The receiver of a link. -/
def State.receiver (l : Link) (s : State) : Receiver :=
  match l with
  | .field => s.field.rx
  | .trunk => s.trunk.rx

/-- Write the receiver of a link. -/
def State.setReceiver (l : Link) (rx : Receiver) (s : State) : State :=
  match l with
  | .field => { s with field := { s.field with rx := rx } }
  | .trunk => { s with trunk := { s.trunk with rx := rx } }

/-- A receive error is counted for its link and raises LINK-CRC (R133). -/
def State.receiveError (l : Link) (s : State) : State :=
  (s.count (match l with | .field => .fieldCrcError | .trunk => .trunkCrcError) 1).raise .linkCrc

/-- An octet without its stop bit is counted for its link (R133). -/
def State.lineError (l : Link) (s : State) : State :=
  s.count (match l with | .field => .fieldLineError | .trunk => .trunkLineError) 1

/-- A malformed frame is counted for its link (R134). -/
def State.malformed (l : Link) (s : State) : State :=
  s.count (match l with | .field => .fieldMalformed | .trunk => .trunkMalformed) 1

/-! ## Offers to the FIFOs and queues -/

/-- Frames of lanes 0 to 7 are dropped at the field ingress FIFO while the Test Generator runs in REPLACE mode
(R135, R159). -/
def State.replaces (lane : Nat) (s : State) : Bool :=
  s.test.running && s.test.args.mode == .replace && decide (lane ≤ 7)

/-- A SENSOR frame is offered to the field ingress FIFO (R135, R136). -/
def State.offerSensor (r : Reading) (s : State) : State :=
  if s.replaces r.lane then s.count .replaceDrop 1
  else if Config.fieldIngressRoom ≤ s.field.ingress.length then (s.count .fieldIngressDrop 1).raise .fieldFull
  else
    let octet := Table.get 0 r.lane s.field.activity
    let t :=
      { s with
        field :=
          { s.field with
            ingress := s.field.ingress ++ [r]
            activity := Table.set 0 r.lane ((octet + 1) % 256) s.field.activity } }
    if t.field.ingress.length = Config.fieldHalf then t.raise .fieldHalf else t

/-- A FOREIGN frame is offered to the pass-through queue (R139). -/
def State.offerPassThrough (payload : List Octet) (s : State) : State :=
  if Config.foreignRoom ≤ s.trunk.passThrough.length then (s.count .passThroughDrop 1).raise .passFull
  else { s with trunk := { s.trunk with passThrough := s.trunk.passThrough ++ [payload] } }

/-- A FOREIGN frame is offered to the field egress queue (R139). -/
def State.offerFieldEgress (payload : List Octet) (s : State) : State :=
  if Config.foreignRoom ≤ s.field.egress.length then (s.count .fieldEgressDrop 1).raise .passFull
  else { s with field := { s.field with egress := s.field.egress ++ [payload] } }

/-- An accepted trunk frame is offered to the trunk ingress FIFO (R137). -/
def State.offerTrunk (f : TrunkFrame) (s : State) : State :=
  if Config.trunkIngressRoom ≤ s.trunk.ingress.length then (s.count .trunkIngressDrop 1).raise .trunkFull
  else { s with trunk := { s.trunk with ingress := s.trunk.ingress ++ [f] } }

/-! ## The judgement of received frames (R134) -/

/-- A frame received on FLD_RX. -/
def State.judgeField (f : Frame) (s : State) : State :=
  if f.cls = classSensor then
    if sensorWellFormed f.payload then s.offerSensor (readSensor f.payload) else s.malformed .field
  else if f.cls = classForeign then s.offerPassThrough f.payload
  else s.malformed .field

/-- A frame received on TRK_RX: a REQUEST is judged on its length and then on its station number. -/
def State.judgeTrunk (f : Frame) (s : State) : State :=
  if f.cls = classForeign then s.offerTrunk (.foreign f.payload)
  else if f.cls = classRequest then
    if f.payload.length < requestHeader then s.malformed .trunk
    else if (octetAt 0 f.payload).toNat = s.mgmt.station then s.offerTrunk (.request (readRequest f.payload))
    else s.count .otherStation 1
  else s.malformed .trunk

/-- A frame received on a link. -/
def State.judgeFrame (l : Link) (f : Frame) (s : State) : State :=
  match l with
  | .field => s.judgeField f
  | .trunk => s.judgeTrunk f

/-! ## Taking octets -/

/-- The receiver takes octets one at a time; after a receive error the octets since the failed sync pair are taken
again, ahead of the rest (R133).  The first argument bounds the number of takings. -/
def State.takeOctets (l : Link) : Nat → List Octet → State → State
  | 0, _, s => s
  | _ + 1, [], s => s
  | n + 1, octet :: rest, s =>
    match (s.receiver l).take octet with
    | .goOn rx => State.takeOctets l n rest (s.setReceiver l rx)
    | .received rx f => State.takeOctets l n rest ((s.setReceiver l rx).judgeFrame l f)
    | .error rx again => State.takeOctets l n (again ++ rest) ((s.setReceiver l rx).receiveError l)

/-- More takings than one octet from the line can cause: each error among the octets taken again leaves at least
a sync pair behind. -/
def takings (rx : Receiver) : Nat := (rx.taken.length + 2) * (rx.taken.length + 2)

/-- One octet arrives on a link: a missing stop bit is counted, and the receiver takes its value (R133). -/
def State.arrive (l : Link) (s : State) (octet : LineOctet) : State :=
  let t := if octet.stopBit then s else s.lineError l
  t.takeOctets l (takings (t.receiver l)) [octet.value]

/-- FLD_RX_FRAME (R133 to R136, R139). -/
def execFldRxFrame (octets : List LineOctet) (s : State) : Out := .next (octets.foldl (State.arrive .field) s)

/-- TRK_RX_FRAME (R133, R134, R137). -/
def execTrkRxFrame (octets : List LineOctet) (s : State) : Out := .next (octets.foldl (State.arrive .trunk) s)

/-- LENGTH_OCTET_ERROR (R133): a receiver in state LENGTH takes a length octet of 249 to 255.  In any other state,
or with another octet, the step does not come about. -/
def execLengthOctetError (link : Link) (octet : LineOctet) (s : State) : Out :=
  if (s.receiver link).state = .length ∧ Config.payloadMax < octet.value.toNat then .next (s.arrive link octet)
  else .next s

/-! ## Routing and sending -/

/-- A request that meets the full request queue is refused from the refusal slot, or lost when the slot is
occupied (R138). -/
def State.refuse (r : Request) (s : State) : State :=
  match s.trunk.refusal with
  | some _ => s.count .requestLost 1
  | none =>
    ({ s with
        trunk :=
          { s.trunk with
            refusal :=
              some { destination := r.source, tag := r.tag, kind := r.kind, result := .busy, content := [] } } }).count
      .requestRefused 1

/-- A frame from the head of the trunk ingress FIFO is routed (R137). -/
def State.routeTrunk (f : TrunkFrame) (s : State) : State :=
  match f with
  | .foreign payload => s.offerFieldEgress payload
  | .request r =>
    if s.mgmt.queue.length < Config.requestRoom then s.onMgmt fun m => { m with queue := m.queue ++ [r] }
    else s.refuse r

/-- TRUNK_INGRESS_ROUTE (R137, R138, R139). -/
def execTrunkIngressRoute (s : State) : Out :=
  match s.trunk.ingress with
  | [] => .next s
  | f :: rest => .next (({ s with trunk := { s.trunk with ingress := rest } }).routeTrunk f)

/-- FIELD_EGRESS_SEND (R139): the head of the field egress queue is sent on FLD_TX. -/
def execFieldEgressSend (s : State) : Out :=
  match s.field.egress with
  | [] => .next s
  | payload :: rest =>
    .next (({ s with field := { s.field with egress := rest } }).sendField { cls := classForeign, payload := payload })

/-- PASS_THROUGH_GRANT (R140): the arbiter grants the pass-through class. -/
def execPassThroughGrant (s : State) : Out :=
  match s.egressGrant, s.trunk.passThrough with
  | some .passThrough, payload :: rest =>
    .next ((({ s with trunk := { s.trunk with passThrough := rest } }).sendTrunk
      { cls := classForeign, payload := payload }).grantedClass .passThrough)
  | _, _ => .next s

/-- REFUSAL_SLOT_GRANT (R141): the BUSY reply leaves the refusal slot. -/
def execRefusalSlotGrant (s : State) : Out :=
  match s.egressGrant, s.trunk.refusal with
  | some .refusal, some r =>
    .next ((({ s with trunk := { s.trunk with refusal := none } }).sendTrunk (r.frame s.mgmt.station)).grantedClass .own)
  | _, _ => .next s

/-- The stage that follows the grant of a reply: a RESTART is carried out then (R152). -/
def Stage.afterReply : Stage → Stage
  | .restartReply => .restartDue
  | stage => stage

/-- REPLY_SLOT_GRANT (R141, R143): the reply is sent, and its request leaves the request queue. -/
def execReplySlotGrant (s : State) : Out :=
  match s.egressGrant, s.mgmt.reply with
  | some .reply, some r =>
    .next (((s.onMgmt fun m =>
      { m with reply := none, queue := m.queue.tail, stage := m.stage.afterReply }).sendTrunk
        (r.frame s.mgmt.station)).grantedClass .own)
  | _, _ => .next s

end Sys2Proof.Machine
end

