-- ==== Sys2Proof/Machine/Generator.lean ====
section
/-! DEFINITION. The Test Generator (section 11.4). -/

namespace Sys2Proof.Machine

/-- Change the Test Generator. -/
def State.onTest (f : TestGenerator → TestGenerator) (s : State) : State := { s with test := f s.test }

/-- The SENSOR frame that the generator makes (R159). -/
def TestGenerator.frame (g : TestGenerator) : Reading where
  bin := g.bin
  tag := g.args.tag
  sequence := g.sequence
  tilt := false
  lidOpen := false
  temperature := 20
  lane := 8
  margin := 0
  echoes := [echoFor g.distance, echoFor g.distance, echoFor g.distance]

/-- The distance of the next pass (R159): less by the step, or the start distance again when it would fall below
100 mm. -/
def TestGenerator.nextDistance (g : TestGenerator) : Nat :=
  if g.distance < 100 + g.args.step then g.args.startDistance else g.distance - g.args.step

/-- The generator after a frame (R159): the next bin, or the next pass after the last bin. -/
def TestGenerator.afterFrame (g : TestGenerator) : TestGenerator :=
  let counted := min (g.generated + 1) Config.counterMax
  if g.bin = g.args.last then
    { g with generated := counted, bin := g.args.first, sequence := (g.sequence + 1) % 256, distance := g.nextDistance }
  else { g with generated := counted, bin := g.bin + 1 }

/-- TEST_INTERVAL_EXPIRY (R159): the RUNNING generator makes a frame, counts it and offers it to the field ingress
FIFO. -/
def execTestIntervalExpiry (s : State) : Out :=
  if s.test.running then .next ((s.onTest TestGenerator.afterFrame).offerSensor s.test.frame) else .next s

/-- The generator taking the arguments of a TEST START (R158). -/
def TestGenerator.start (args : TestArgs) (_g : TestGenerator) : TestGenerator where
  running := true
  args := args
  bin := args.first
  distance := args.startDistance
  sequence := 0
  generated := 0
  applied := 0

/-- TEST START (R158). -/
def State.serveTestStart (args : List Octet) (s : State) : State :=
  match testModeOf (octetAt 12 args) with
  | none => s.reply .badValue []
  | some mode =>
    if !(argTest args mode).inRange then s.reply .badValue []
    else if s.test.running then s.reply .busy []
    else (s.onTest (TestGenerator.start (argTest args mode))).reply .done []

/-- TEST_START (R158). -/
def execTestStart (s : State) : Out := .next (s.serve .testStart [] State.serveTestStart)

/-- TEST STOP (R160). -/
def State.serveTestStop (s : State) : State :=
  if s.test.running then (s.onTest fun g => { g with running := false }).reply .done [] else s.reply .conflict []

/-- TEST_STOP (R160). -/
def execTestStop (s : State) : Out := .next (s.serve .testStop [] fun _ t => t.serveTestStop)

/-- The shortfall (R160): generated less applied, or 0 when applied is the larger. -/
def TestGenerator.shortfall (g : TestGenerator) : Nat := g.generated - g.applied

/-- The content of a TEST READ reply (R160). -/
def TestGenerator.content (g : TestGenerator) : List Octet :=
  [boolOctet g.running] ++ testArgOctets g.args ++ beOctets 2 g.bin ++ beOctets 2 g.distance ++ beOctets 1 g.sequence
    ++ beOctets 4 g.generated ++ beOctets 4 g.applied ++ beOctets 4 g.shortfall

/-- The counts set to 0 (R160). -/
def TestGenerator.zeroed (g : TestGenerator) : TestGenerator := { g with generated := 0, applied := 0 }

/-- TEST READ (R160). -/
def State.serveTestRead (s : State) : State :=
  let t := if 0 < s.test.shortfall then s.raise .testShort else s
  (t.onTest TestGenerator.zeroed).reply .done s.test.content

/-- TEST_READ (R160). -/
def execTestRead (s : State) : Out := .next (s.serve .testRead [] fun _ t => t.serveTestRead)

end Sys2Proof.Machine
end

