-- ==== Sys2Proof/Machine/Readings.lean ====
section
/-! DEFINITION. The Reading Unit: record fetch, sequence check, fill computation, run write and application
(sections 3.2 to 3.4, chapter 4, sections 5.1 to 5.6). -/

namespace Sys2Proof.Machine

/-- The Reading Unit changes state. -/
def State.readerTo (r : ReadingUnit) (s : State) : State := { s with reader := r }

/-- A reading is dropped and counted, and the Reading Unit is IDLE (R47, R48, R50). -/
def State.dropReading (c : Ctr) (s : State) : State := (s.count c 1).readerTo .idle

/-- A reading arrived on lane 8 (R84). -/
def Reading.isTest (r : Reading) : Bool := r.lane == 8

/-! ## Record fetch -/

/-- The arrival time of a parked reading: the Part Time at which it was first parked, which a reading that came from
the Park List keeps (R15, R16). -/
def Taken.parkTime (now : Nat) (t : Taken) : Nat :=
  match t.source with
  | .arrivals => now
  | .parkList => t.arrival

/-- A reading joins the Park List at its tail, unreleased (R15). -/
def BinTable.parked (now : Nat) (t : Taken) (b : BinTable) : BinTable :=
  { b with park := b.park ++ [{ reading := t.reading, arrival := t.parkTime now, released := false }] }

/-- The reading is parked at the tail, or dropped with PARK-FULL when the list is full (R15, R49). -/
def State.park (t : Taken) (s : State) : State :=
  if s.table.park.length < Config.parkRoom then ({ s with table := s.table.parked s.now t }).dropReading .parkedReading
  else (s.raise .parkFull).dropReading .parkOverflow

/-- The sequence check on what the fetch kept, and where the reading goes from it (R50, R51). -/
def State.checkSequence (t : Taken) (b : Bin) (s : State) : State :=
  match judgeSequence b.fill t.reading.sequence with
  | .repeated => s.dropReading .repeated
  | .outOfOrder run => (s.count .outOfOrder 1).readerTo (.runWrite t b.generation run)
  | .accepted gapCount gapGain sensorRestart =>
    s.readerTo
      (.compute
        { taken := t, record := b.record, fill := b.fill, generation := b.generation, gapCount := gapCount
          gapGain := gapGain, sensorRestart := sensorRestart })

/-- Checks 2 to 6 of the record fetch, in order, on a readable record, and then the sequence check (R47 to R50). -/
def State.checkReading (t : Taken) (b : Bin) (s : State) : State :=
  if b.fill.service = .off then s.dropReading .unknownBin
  else if b.fill.service = .fault then s.dropReading .faultDrop
  else if b.record.tag ≠ t.reading.tag then s.dropReading .tagMismatch
  else if t.reading.isTest && !b.record.testBin then s.dropReading .testRefused
  else if s.isHeld t.reading.bin then s.park t
  else s.checkSequence t b

/-- RECORD_FETCH (R46 to R51): the Reading Unit's record read grant; a damaged record drops the reading (R47). -/
def execRecordFetch (wear : Wear) (s : State) : Out :=
  match s.reader with
  | .fetch t =>
    if s.portGrant = some .readingUnit then
      let u := (s.granted .readingUnit).access .read t.reading.isTest t.reading.bin wear
      match s.finding .read t.reading.bin wear with
      | .damaged => .next (u.dropReading .faultDrop)
      | .good => .next (u.checkReading t (u.bin t.reading.bin))
      | .corrected => .next (u.checkReading t (u.bin t.reading.bin))
    else .next s
  | _ => .next s

/-! ## Fill computation -/

/-- The counter of a hold cause (R58). -/
def HoldCause.counter : HoldCause → Ctr
  | .tilt => .tiltHold
  | .lid => .lidHold
  | .blind => .blindHold
  | .curve => .damagedCurveHold

/-- A reading is held: its cause is counted, and the application is requested (R52, R58). -/
def State.holdReading (a : Accepted) (cause : HoldCause) (s : State) : State :=
  (s.count cause.counter 1).readerTo (.apply a (.held cause))

/-- FILL_COMPUTATION (R52, R57 to R70): hold tests, echo choice, the one curve slot access, and the stages.  R31
says that the slot is always present; the model faults where it is not. -/
def execFillComputation (wear : Wear) (s : State) : Out :=
  match s.reader with
  | .compute a =>
    match echoStage a.record.kind a.taken.reading with
    | .held cause => .next (s.holdReading a cause)
    | .echo time =>
      let v := s.curves.slot s.curves.active a.record.curve
      if v.present then
        let t := s.slotAccess s.curves.active a.record.curve wear
        if v.finding wear = .damaged then .next (t.holdReading a .curve)
        else
          .next (t.readerTo (.apply a
            (computeFill a.record a.fill.filtered s.mgmt.params.emptiedDrop time a.taken.reading.temperature v.points)))
      else .fault .curveAbsent
  | _ => .next s

/-! ## Run write -/

/-- RUN_WRITE (R51): the out-of-order run is set when the generation is the one kept at the fetch and the bin is
still ACTIVE. -/
def execRunWrite (wear : Wear) (s : State) : Out :=
  match s.reader with
  | .runWrite t generation run =>
    if s.portGrant = some .readingUnit then
      let n := t.reading.bin
      let u := (s.granted .readingUnit).access .write false n wear
      let b := u.bin n
      if b.generation = generation ∧ b.fill.service = .active then
        .next ((u.setBin n { b with fill := { b.fill with outOfOrderRun := run } }).readerTo .idle)
      else .next (u.readerTo .idle)
    else .next s
  | _ => .next s

/-! ## Application -/

/-- The entry of the reading, when the reading came from the Arrival Filter and the entry is still there (R54). -/
def State.entryOf (t : Taken) (s : State) : Option Arrival :=
  match t.source with
  | .parkList => none
  | .arrivals => s.filter.entries.find? (Arrival.isOf t.reading)

/-- The reception record made from the frame alone (R54). -/
def Reading.reception (r : Reading) : Reception where
  lanes := Bits.put r.lane 0
  margin := r.margin
  copies := 1

/-- The reception record that an application writes (R54). -/
def State.receptionFor (t : Taken) (s : State) : Reception :=
  match s.entryOf t with
  | some e => e.reception
  | none => t.reading.reception

/-- The entry of an applied reading is marked applied, with the bin's generation (R54). -/
def ArrivalFilter.markApplied (t : Taken) (generation : Nat) (f : ArrivalFilter) : ArrivalFilter :=
  match t.source with
  | .parkList => f
  | .arrivals =>
    { f with entries := f.entries.map fun e => if e.isOf t.reading then { e with generation := some generation } else e }

/-- What every applied reading writes (R53, R59, R61). -/
def FillState.heardFrom (a : Accepted) (reception : Reception) (f : FillState) : FillState :=
  { f with
    lastSequence := some a.taken.reading.sequence, outOfOrderRun := 0, gapCount := a.gapCount
    lastHeard := a.taken.arrival, reception := some reception, fallen := a.taken.reading.tilt, stale := false }

/-- What a COMPUTED fill result writes besides (R71), with the level judged from the level at the grant (R75). -/
def FillState.filled (a : Accepted) (now raw filtered : Nat) (emptying : Bool) (litres : Nat) (f : FillState) : FillState :=
  { f with
    filtered := some filtered, lastRaw := some raw, lastEmptied := if emptying then some now else f.lastEmptied
    countedLitres := litres
    level := judgeLevel filtered a.record.warn a.record.collect a.record.hysteresis f.level }

/-- The Fill State after an application (R53, R61, R71). -/
def FillState.applied (a : Accepted) (result : FillResult) (now : Nat) (reception : Reception) (f : FillState) : FillState :=
  match result with
  | .held _ => f.heardFrom a reception
  | .computed raw filtered emptying litres => (f.heardFrom a reception).filled a now raw filtered emptying litres

/-- The result is an emptying (R57). -/
def FillResult.isEmptying : FillResult → Bool
  | .held _ => false
  | .computed _ _ emptying _ => emptying

/-- The result is COMPUTED (R57). -/
def FillResult.isComputed : FillResult → Bool
  | .held _ => false
  | .computed _ _ _ _ => true

/-- The notices that an application calls for, in their order (R83, R85): BACK, FALLEN or UPRIGHT, EMPTIED, FULL. -/
def applicationNotices (result : FillResult) (before after : FillState) : List NoticeKind :=
  (if before.stale then [.back] else [])
    ++ (if !before.fallen && after.fallen then [.fallen] else [])
    ++ (if before.fallen && !after.fallen then [.upright] else [])
    ++ (if result.isEmptying then [.emptied] else [])
    ++ (if result.isComputed && after.level == .full && before.level != .full then [.full] else [])

/-- The counts of an application whose write is made (R50, R51, R53, R68). -/
def State.countApplied (a : Accepted) (result : FillResult) (s : State) : State :=
  let t := (s.count .appliedReading 1).count .gap a.gapGain
  let u := if a.sensorRestart then t.count .sensorRestart 1 else t
  let v := if result.isEmptying then u.count .emptying 1 else u
  if a.taken.reading.isTest then
    { v with test := { v.test with applied := min (v.test.applied + 1) Config.counterMax } }
  else v

/-- The write of an application is made (R53, R54, R56): the Fill State, the entry's mark, the counts, and then the
contribution change and the notices. -/
def State.makeApplication (a : Accepted) (result : FillResult) (b : Bin) (s : State) : State :=
  let n := a.taken.reading.bin
  let after := b.fill.applied a result s.now (s.receptionFor a.taken)
  let t := (s.setBin n { b with fill := after }).onFilter (ArrivalFilter.markApplied a.taken b.generation)
  let u := (t.countApplied a result).postChange b.fill after
  ((applicationNotices result b.fill after).foldl
    (State.notify a.record.selection n (some a.record.kind) a.taken.reading.isTest after) u).readerTo .idle

/-- APPLICATION (R52 to R56): overtaken when the generation has changed, a fault drop when the bin is no longer
ACTIVE, and made otherwise. -/
def execApplication (wear : Wear) (s : State) : Out :=
  match s.reader with
  | .apply a result =>
    if s.portGrant = some .readingUnit then
      let n := a.taken.reading.bin
      let t := (s.granted .readingUnit).access .write a.taken.reading.isTest n wear
      let b := t.bin n
      if b.generation ≠ a.generation then .next (t.dropReading .overtaken)
      else if b.fill.service ≠ .active then .next (t.dropReading .faultDrop)
      else .next (t.makeApplication a result b)
    else .next s
  | _ => .next s

end Sys2Proof.Machine
end

