-- ==== Sys2Proof/Machine/Reports.lean ====
section
/-! DEFINITION. The frames that the Condition Unit and the Planner Channels send (R108, R110, R155), and the pace
boundary (R106). -/

namespace Sys2Proof.Machine

/-- CONDITION_NOTICE_GRANT (R141, R155): the notice is formed with the alert set as it stands and sent to the
alert address; the holdoff starts at 10. -/
def execConditionNoticeGrant (s : State) : Out :=
  match s.egressGrant, s.report.conditions.address with
  | some .notice, some address =>
    let alert := s.alertSet
    .next (((s.onReport fun r =>
      { r with
        conditions :=
          { r.conditions with
            noticeWaiting := false, lastSent := alert, holdoff := some Config.holdoffStart, gainInHoldoff := false } }).sendTrunk
      (conditionFrame address s.mgmt.station s.now alert s.raisedFlags)).grantedClass .own)
  | _, _ => .next s

/-- CREDIT_OUT_NOTICE (R107, R110): the granted channel sends its pending CREDIT-OUT notice. -/
def execCreditOutNotice (s : State) : Out :=
  match s.egressGrant with
  | some (.channel n) =>
    let c := s.report.channel n
    match c.creditOut with
    | some notice =>
      .next (((((s.onReport (Reporting.setChannel n { c with creditOut := none })).count .creditOut 1).sendTrunk
        (notice.frame s.mgmt.station)).grantedClass .own).grantedChannel n)
    | none => .next s
  | _ => .next s

/-- The octets of one record of a REPORT frame: a summary is read from its zone's tally, a notice is frozen
(R108, section 12.4). -/
def Reporting.recordOctets (r : Reporting) (e : Entry) : List Octet :=
  match e.item with
  | .summary zone => summaryOctets zone (r.tally zone)
  | .notice n => noticeOctets n

/-- The number of entries that the next REPORT frame takes (R108, step 1). -/
def Channel.taken (c : Channel) : Nat := min Config.recordsPerFrame c.eligible

/-- The channel after its REPORT frame: the entries leave, one credit is spent, and the owed set refills the queue
(R108, steps 4 and 5; R104). -/
def Channel.sent (c : Channel) : Channel :=
  ({ c with queue := c.queue.drop c.taken, credit := c.credit - 1 }).refill

/-- The REPORT frame that a channel forms (R108, steps 2 and 3). -/
def State.reportFrameFor (n : Nat) (s : State) : Frame :=
  let c := s.report.channel n
  reportFrameOf c.destination n s.now (c.credit - 1) ((c.queue.take c.taken).map s.report.recordOctets)

/-- REPORT_FRAME (R104, R107 to R109): the granted channel, with no CREDIT-OUT pending, forms one REPORT frame. -/
def execReportFrame (s : State) : Out :=
  match s.egressGrant with
  | some (.channel n) =>
    let c := s.report.channel n
    match c.creditOut with
    | some _ => .next s
    | none =>
      .next (((((s.onReport fun r =>
        (r.setChannel n c.sent).settle s.now n).count .reportFrame 1).sendTrunk
          (s.reportFrameFor n)).grantedClass .own).grantedChannel n)
  | _ => .next s

/-- One channel at a pace boundary: it marks its entries due, and may become exhausted (R106, R109). -/
def Reporting.boundaryTo (now : Nat) (r : Reporting) (n : Nat) : Reporting :=
  (r.setChannel n (r.channel n).boundary).settle now n

/-- The pace boundary of R106, once it has fallen. -/
def State.takeBoundary (s : State) : State :=
  if s.report.boundary then
    s.onReport fun r => channelNumbers.foldl (Reporting.boundaryTo s.now) { r with boundary := false }
  else s

/-- PACE_BOUNDARY (R106). -/
def execPaceBoundary (s : State) : Out := .next s.takeBoundary

end Sys2Proof.Machine
end

