-- ==== Sys2Proof/Machine/Requests.lean ====
section
/-! DEFINITION. Management requests of chapter 10 but for RESTART, and ZONE READ (R97). -/

namespace Sys2Proof.Machine

/-- UNKNOWN_REQUEST (R144, R147): a kind value that names no request kind is answered BAD-REQUEST. -/
def execUnknownRequest (s : State) : Out :=
  match s.takeable with
  | none => .next s
  | some r =>
    match RequestKind.ofCode r.kind with
    | some _ => .next s
    | none => .next (s.reply .badRequest [])

/-- The nine lane activity octets (R136). -/
def State.activityOctets (s : State) : List Octet :=
  [0, 1, 2, 3, 4, 5, 6, 7, 8].flatMap fun lane => beOctets 1 (Table.get 0 lane s.field.activity)

/-- The content of an INFO reply (R151). -/
def State.infoContent (s : State) : List Octet :=
  beOctets 2 Config.partIdentification ++ beOctets 1 s.mgmt.station ++ beOctets 1 s.mgmt.speed ++ beOctets 4 s.now
    ++ [boolOctet s.mgmt.lock.isSome] ++ lockOctets s.mgmt.lock ++ [s.mgmt.newer.code, s.mgmt.older.code]
    ++ [s.curves.active.code] ++ s.activityOctets

/-- INFO (R151). -/
def execInfo (s : State) : Out := .next (s.serve .info [] fun _ t => t.reply .done t.infoContent)

/-- TIME SET (R149): Part Time is set and the Recent Arrivals list emptied without write-back (R39). -/
def State.serveTimeSet (args : List Octet) (s : State) : State :=
  let new := fieldAt 0 4 args
  (({ s with filter := { entries := [], retiring := none } }).onMgmt fun m => { m with partTime := new }).reply .done
    (beOctets 4 s.now ++ beOctets 4 new)

/-- TIME_SET (R149). -/
def execTimeSet (s : State) : Out := .next (s.serve .timeSet [] State.serveTimeSet)

/-! ## Parameters (R150) -/

/-- A value clamped into a range. -/
def clampTo (low high value : Nat) : Nat := max low (min value high)

/-- The sweep interval's own clamp (R150). -/
def clampInterval (value : Nat) : Nat := if value = 0 then 0 else clampTo 60 86400 value

/-- The clamp of parameter `i` of the table of section 10.5. -/
def clampParam (i value : Nat) : Nat :=
  match i with
  | 0 => clampTo 2 15 value
  | 1 => clampTo 600 604800 value
  | 2 => clampInterval value
  | 3 => clampTo 10 3600 value
  | 4 => clampTo 100 900 value
  | 5 => clampTo 0 65535 value
  | _ => clampTo 10 3600 value

/-- A parameter after a PARAM SET: the clamped value when it is present, itself when it is absent. -/
def newParam (i : Nat) (args : List Octet) (old : Nat) : Nat :=
  match argParam i args with
  | none => old
  | some value => clampParam i value

/-- The parameters after a PARAM SET. -/
def Params.set (args : List Octet) (p : Params) : Params where
  dedupHold := newParam 0 args p.dedupHold
  silenceLimit := newParam 1 args p.silenceLimit
  sweepInterval := newParam 2 args p.sweepInterval
  pacePeriod := newParam 3 args p.pacePeriod
  emptiedDrop := newParam 4 args p.emptiedDrop
  summaryStep := newParam 5 args p.summaryStep
  holdLimit := newParam 6 args p.holdLimit

/-- The clamp mark of parameter `i`: the value was present and was changed by the clamp. -/
def clampMark (args : List Octet) (i : Nat) : Bool :=
  match argParam i args with
  | none => false
  | some value => clampParam i value != value

/-- The octet of clamp marks; bit 7 is sent as 0 (log entry 25: the model's choice). -/
def clampMarks (args : List Octet) : Octet :=
  [0, 1, 2, 3, 4, 5, 6].foldl (fun v i => if clampMark args i then Bits.put i v else v) 0

/-- The auto countdown after a PARAM SET in which the sweep interval is present (R119). -/
def SweepEngine.newInterval (interval : Nat) (e : SweepEngine) : SweepEngine :=
  if interval = 0 then { e with countdown := none, autoDue := false, expired := false }
  else if e.autoDue then e
  else { e with countdown := some interval, expired := false }

/-- PARAM SET (R150). -/
def State.serveParamSet (args : List Octet) (s : State) : State :=
  let t := s.onMgmt fun m => { m with params := m.params.set args }
  let u :=
    match argParam 2 args with
    | none => t
    | some _ => { t with sweep := t.sweep.newInterval t.mgmt.params.sweepInterval }
  u.reply .done ([clampMarks args] ++ paramOctets u.mgmt.params)

/-- PARAM_SET (R150). -/
def execParamSet (s : State) : Out := .next (s.serve .paramSet [] State.serveParamSet)

/-- PARAM_READ (R150). -/
def execParamRead (s : State) : Out :=
  .next (s.serve .paramRead [] fun _ t => t.reply .done ([0x00] ++ paramOctets t.mgmt.params))

/-- CLEAR (R146): the lock ends. -/
def execClear (s : State) : Out :=
  .next (s.serve .clear [] fun _ t => (t.onMgmt fun m => { m with lock := none }).reply .done [])

/-! ## ZONE READ -/

/-- ZONE READ (R97). -/
def State.serveZoneRead (args : List Octet) (s : State) : State :=
  let first := fieldAt 0 1 args
  let count := fieldAt 1 1 args
  if count = 0 ∨ 8 < count ∨ 63 < first ∨ 64 < first + count then s.reply .badValue []
  else
    s.reply .done
      (beOctets 2 s.mgmt.params.summaryStep
        ++ (List.range count).flatMap fun i => zoneOctets (first + i) (s.report.tally (first + i)))

/-- ZONE_READ (R97). -/
def execZoneRead (s : State) : Out := .next (s.serve .zoneRead [] State.serveZoneRead)

end Sys2Proof.Machine
end

