-- ==== Sys2Proof/Machine/Sweeps.lean ====
section
/-! DEFINITION. The Sweep Engine: automatic sweeps, visits, the stale write, and the sweep requests (chapter 8). -/

namespace Sys2Proof.Machine

/-- Change the Sweep Engine. -/
def State.onSweep (f : SweepEngine → SweepEngine) (s : State) : State := { s with sweep := f s.sweep }

/-- The countdown set from the sweep interval: stopped when the interval is 0 (R119). -/
def countdownFrom (interval : Nat) : Option Nat := if interval = 0 then none else some interval

/-- An AUTO sweep starts (R119, R120).  It requests its first visit's read in the step that starts it (log entry 24:
the model's choice). -/
def SweepEngine.startAuto (interval : Nat) (e : SweepEngine) : SweepEngine :=
  { e with
    state := .running, mode := .auto, first := 0, last := Config.lastBin, direction := .up, cursor := 0
    visited := 0, found := 0, countdown := countdownFrom interval, autoDue := false, stage := .read }

/-- The expiry of the auto countdown (R120). -/
def SweepEngine.expire (interval : Nat) (e : SweepEngine) : SweepEngine :=
  match e.state with
  | .idle => ({ e with expired := false }).startAuto interval
  | .running => { e with expired := false, autoDue := true }
  | .suspended => { e with expired := false, autoDue := true }

/-- The expiry of R120, once the countdown has reached 0. -/
def State.takeAutoExpiry (s : State) : State :=
  if s.sweep.expired then s.onSweep (SweepEngine.expire s.mgmt.params.sweepInterval) else s

/-- AUTO_COUNTDOWN_EXPIRY (R120). -/
def execAutoCountdownExpiry (s : State) : Out := .next s.takeAutoExpiry

/-! ## Visits -/

/-- The cursor one bin toward the last bin (R126). -/
def SweepEngine.nextCursor (e : SweepEngine) : Nat :=
  match e.direction with
  | .up => e.cursor + 1
  | .down => e.cursor - 1

/-- The engine after a visit has ended (R123, R126, R127): at the last bin the sweep ends and a due AUTO sweep
starts; before it the cursor advances, and the engine is suspended or requests its next visit. -/
def SweepEngine.afterVisit (interval : Nat) (suspending : Bool) (e : SweepEngine) : SweepEngine :=
  let v := { e with visited := e.visited + 1, stage := .none }
  if e.cursor = e.last then
    if e.autoDue then v.startAuto interval else { v with state := .idle }
  else if suspending then { v with cursor := e.nextCursor, state := .suspended }
  else { v with cursor := e.nextCursor, stage := .read }

/-- A visit ends: it is counted, a sweep that ends is counted, and a waiting SWEEP SUSPEND is answered with the
engine's fields as they then stand (R123, R126, R127). -/
def State.endVisit (s : State) : State :=
  let suspending := s.mgmt.stage == .suspend
  let t := (s.count .sweepVisit 1).onSweep (SweepEngine.afterVisit s.mgmt.params.sweepInterval suspending)
  let u := if s.sweep.cursor = s.sweep.last then t.count .sweepEnd 1 else t
  if suspending then u.reply .done (sweepOctets u.sweep) else u

/-- The age of a bin at a visit (R124): 0 when last heard is later than Part Time. -/
def ageAt (now lastHeard : Nat) : Nat := now - lastHeard

/-- The bin's limit (R124). -/
def limitOf (record : BinRecord) (globalLimit : Nat) : Nat := record.silenceLimit.getD globalLimit

/-- The visit of a bin whose record is readable (R123, the rows after the first). -/
def State.judgeVisit (b : Bin) (s : State) : State :=
  if s.isHeld s.sweep.cursor then (s.count .sweepSkip 1).endVisit
  else if b.fill.service ≠ .active then s.endVisit
  else if b.fill.stale then s.endVisit
  else if limitOf b.record s.mgmt.params.silenceLimit < ageAt s.now b.fill.lastHeard then
    s.onSweep fun e => { e with stage := .write b.record b.generation b.fill.lastHeard }
  else s.endVisit

/-- VISIT (R123): the visit's record read grant. -/
def execVisit (wear : Wear) (s : State) : Out :=
  if s.sweep.stage = .read ∧ s.portGrant = some .sweepEngine then
    let t := (s.granted .sweepEngine).access .read false s.sweep.cursor wear
    match s.finding .read s.sweep.cursor wear with
    | .damaged => .next t.endVisit
    | .good => .next (t.judgeVisit (t.bin t.sweep.cursor))
    | .corrected => .next (t.judgeVisit (t.bin t.sweep.cursor))
  else .next s

/-- The stale write is made: the flag, its contribution change, its STALE notice and its counts (R76, R125). -/
def State.markStale (record : BinRecord) (b : Bin) (s : State) : State :=
  let n := s.sweep.cursor
  let f := { b.fill with stale := true }
  ((((s.setBin n { b with fill := f }).postChange b.fill f).notify record.selection n (some record.kind) false f .stale).onSweep
    fun e => { e with found := e.found + 1 }).count .staleMark 1

/-- STALE_WRITE (R125): made when last heard and generation are those of the visit's read, the segment is not held
and the bin is ACTIVE; abandoned otherwise. -/
def execStaleWrite (wear : Wear) (s : State) : Out :=
  match s.sweep.stage with
  | .write record generation lastHeard =>
    if s.portGrant = some .sweepEngine then
      let n := s.sweep.cursor
      let t := (s.granted .sweepEngine).access .write false n wear
      let b := t.bin n
      if b.fill.lastHeard = lastHeard ∧ b.generation = generation ∧ t.isHeld n = false ∧ b.fill.service = .active then
        .next (t.markStale record b).endVisit
      else .next (t.count .staleAbandon 1).endVisit
    else .next s
  | _ => .next s

/-! ## Requests -/

/-- A range is consistent (R121). -/
def rangeConsistent (first last : Nat) (direction : Direction) : Bool :=
  match direction with
  | .up => first ≤ last
  | .down => last ≤ first

/-- A manual sweep starts (R121).  It requests its first visit's read in the step that starts it (log entry 24: the
model's choice). -/
def SweepEngine.startManual (first last : Nat) (direction : Direction) (e : SweepEngine) : SweepEngine :=
  { e with
    state := .running, mode := .manual, first := first, last := last, direction := direction, cursor := first
    visited := 0, found := 0, stage := .read }

/-- SWEEP START, steps 3 to 6 of R121. -/
def State.serveSweepStart (args : List Octet) (s : State) : State :=
  let first := fieldAt 0 2 args
  let last := fieldAt 2 2 args
  match directionOf (octetAt 4 args) with
  | none => s.reply .badValue []
  | some direction =>
    if Config.lastBin < first ∨ Config.lastBin < last then s.reply .badValue []
    else if s.sweep.state ≠ .idle then s.reply .busy []
    else if rangeConsistent first last direction then
      let t := s.onSweep (SweepEngine.startManual first last direction)
      t.reply .done (sweepOctets t.sweep)
    else s.lockAndReply .sweepRange first

/-- SWEEP_START (R121, R122). -/
def execSweepStart (s : State) : Out :=
  .next (s.serve .sweepStart [] fun args t => t.unlessLocked (State.serveSweepStart args))

/-- SWEEP SUSPEND (R127): with a visit in progress the reply waits for its end. -/
def State.serveSweepSuspend (s : State) : State :=
  if s.sweep.state = .running then
    if s.sweep.stage = .none then
      let t := s.onSweep fun e => { e with state := .suspended }
      t.reply .done (sweepOctets t.sweep)
    else s.onMgmt fun m => { m with stage := .suspend }
  else s.reply .conflict []

/-- SWEEP_SUSPEND (R127). -/
def execSweepSuspend (s : State) : Out := .next (s.serve .sweepSuspend [] fun _ t => t.serveSweepSuspend)

/-- SWEEP RESUME (R128). -/
def State.serveSweepResume (s : State) : State :=
  if s.sweep.state = .suspended then
    (s.onSweep fun e => { e with state := .running, stage := .read }).reply .done []
  else s.reply .conflict []

/-- SWEEP_RESUME (R128). -/
def execSweepResume (s : State) : Out := .next (s.serve .sweepResume [] fun _ t => t.serveSweepResume)

/-- The engine returned to IDLE, its pending access withdrawn and a due AUTO sweep cleared (R129, R131). -/
def SweepEngine.halted (e : SweepEngine) : SweepEngine := { e with state := .idle, autoDue := false, stage := .none }

/-- STOP (R129): the sweep halts, and the lock ends. -/
def State.serveStop (s : State) : State :=
  ((s.onSweep SweepEngine.halted).onMgmt fun m => { m with lock := none }).reply .done []

/-- STOP (R129, R146). -/
def execStop (s : State) : Out := .next (s.serve .stop [] fun _ t => t.serveStop)

/-- The content of a SWEEP READ reply (R130). -/
def State.sweepContent (s : State) : List Octet :=
  sweepOctets s.sweep ++ beOctets 4 (s.sweep.countdown.getD 0xFFFFFFFF) ++ [boolOctet s.sweep.autoDue]
    ++ beOctets 4 s.mgmt.params.sweepInterval ++ beOctets 4 s.mgmt.params.silenceLimit

/-- SWEEP_READ (R130). -/
def execSweepRead (s : State) : Out := .next (s.serve .sweepRead [] fun _ t => t.reply .done t.sweepContent)

end Sys2Proof.Machine
end

