-- ==== Sys2Proof/Machine/Restart.lean ====
section
/-! DEFINITION. Device reset (R25, R142) and RESTART (R25, R99, R117, R131, R152). -/

namespace Sys2Proof.Machine

/-- DEVICE_RESET: every block takes its reset state, and the straps are read.  The model's own fields stay. -/
def execDeviceReset (station : BitVec 4) (speed : BitVec 2) (s : State) : Out :=
  .next { State.resetWith station.toNat speed.toNat with freeCount := s.freeCount, pending := s.pending }

/-- RESTART as it is taken (R152): the reply DONE is placed, and the restart waits for its grant. -/
def State.serveRestart (s : State) : State := (s.reply .done []).onMgmt fun m => { m with stage := .restartReply }

/-- RESTART (R152). -/
def execRestart (s : State) : Out := .next (s.serve .restart [] fun _ t => t.serveRestart)

/-- The Fill State of an ACTIVE bin after the table-wide clear (R25). -/
def FillState.cleared (now : Nat) (f : FillState) : FillState :=
  if f.service = .active then { FillState.reset with service := .active, lastHeard := now, countedZone := f.countedZone }
  else f

/-- The table-wide clear of the Bin Table (R25). -/
def BinTable.cleared (now : Nat) (t : BinTable) : BinTable :=
  { t with
    bins := Table.mapEntries Bin.reset (fun b => { b with fill := b.fill.cleared now }) t.bins, held := [], park := [] }

/-- The pending accesses of the Reading Unit, the Arrival Filter and the Sweep Engine are withdrawn: the reading in
hand is abandoned, the Recent Arrivals list emptied, and the engine returned to IDLE (R25, R39, R45, R131). -/
def State.withdrawn (s : State) : State :=
  { s with reader := .idle, filter := { entries := [], retiring := none }, sweep := s.sweep.halted }

/-- The table-wide clear, with the tallies recomputed in it (R25, R99). -/
def State.tableCleared (s : State) : State :=
  { s with
    table := s.table.cleared s.now
    report := { s.report with zones := Table.mapEntries Tally.zero Tally.restarted s.report.zones } }

/-- The lock ends, and the Report Unit, the Condition Unit and the Test Generator take their RESTART states
(R117, R146, R152, R153, R156, R157, R160). -/
def State.blocksRestarted (s : State) : State :=
  { s with
    mgmt := { s.mgmt with lock := none, stage := .idle }
    report := s.report.restarted s.now
    test := { s.test with running := false, generated := 0, applied := 0 } }

/-- TABLE_WIDE_CLEAR (R25, R99, R152): the clear grant of a RESTART whose reply has been granted. -/
def execTableWideClear (s : State) : Out :=
  if s.mgmt.stage = .restartDue then
    let t := s.withdrawn.tableCleared
    .next { t with mgmt := { t.mgmt with stage := .restartCleared } }
  else .next s

/-- RESTART_CARRIED_OUT (R152): the withdrawal, the table-wide clear unless its grant has been taken, and the
RESTART states of the other blocks. -/
def execRestartCarriedOut (s : State) : Out :=
  match s.mgmt.stage with
  | .restartDue => .next s.withdrawn.tableCleared.blocksRestarted
  | .restartCleared => .next s.withdrawn.blocksRestarted
  | _ => .next s

end Sys2Proof.Machine
end

