-- ==== Sys2Proof/Machine/Timers.lean ====
section
/-! DEFINITION. The one-second tick and the events that fall at it (R13, R42, R106, R119, R148, R156). -/

namespace Sys2Proof.Machine

/-- A held segment whose timer has reached 0 leaves the held set, and its parked readings are released (R13). -/
def State.takeHoldExpiry (segment : Nat) (s : State) : State :=
  if s.table.timer segment = some 0 then { s with table := s.table.release segment } else s

/-- HOLD_TIMER_EXPIRY (R13): of a segment whose timer has reached 0. -/
def execHoldTimerExpiry (segment : Nat) (s : State) : Out := .next (s.takeHoldExpiry segment)

/-- The end of the holdoff (R156): a notice waits when a gain came in the holdoff, an alert address is present,
and the alert set is not empty and differs from the last set sent. -/
def State.takeHoldoffEnd (s : State) : State :=
  if s.report.conditions.holdoff = some 0 then
    let u := s.report.conditions
    let follows := u.gainInHoldoff && u.address.isSome && s.alertSet != 0 && s.alertSet != u.lastSent
    s.onReport fun r =>
      { r with
        conditions :=
          { r.conditions with
            holdoff := none, gainInHoldoff := false, noticeWaiting := r.conditions.noticeWaiting || follows } }
  else s

/-- HOLDOFF_END (R156). -/
def execHoldoffEnd (s : State) : Out := .next s.takeHoldoffEnd

/-- The events of the last tick that have not been taken yet, taken before the next tick counts (log entry 8): they
fall at their own tick, so none can fall after the next one. -/
def State.overdueEvents (s : State) : State :=
  ((((List.range 32).foldl (fun t segment => t.takeHoldExpiry segment) s).takeAutoExpiry).takeBoundary).takeHoldoffEnd

/-- An entry is due at a tick (R42): Part Time is at least its first arrival plus the dedup hold as it stands.  Each
tick tests every entry anew, so a longer hold takes back what a shorter one found. -/
def Arrival.tested (now dedupHold : Nat) (e : Arrival) : Arrival :=
  { e with due := decide (e.firstArrival + dedupHold ≤ now) }

/-- The auto countdown at a tick: above 0 it falls by 1, and on reaching 0 its expiry falls (R119). -/
def SweepEngine.tick (e : SweepEngine) : SweepEngine :=
  match e.countdown with
  | none => e
  | some n => { e with countdown := some (n - 1), expired := e.expired || n == 1 }

/-- The count of one tick (R13, R42, R106, R119, R148, R156): Part Time rises unless it stands at its maximum,
the countdowns fall, entries are tested, and a pace boundary falls on a multiple of the pace period. -/
def State.countTick (s : State) : State :=
  let rises := decide (s.now < Config.partTimeMax)
  let now := if rises then s.now + 1 else s.now
  { s with
    mgmt := { s.mgmt with partTime := now }
    table := { s.table with held := s.table.held.map fun e => (e.1, e.2 - 1) }
    filter := { s.filter with entries := s.filter.entries.map (Arrival.tested now s.mgmt.params.dedupHold) }
    sweep := s.sweep.tick
    report :=
      { s.report with
        boundary := s.report.boundary || (rises && now % s.mgmt.params.pacePeriod == 0)
        conditions :=
          { s.report.conditions with holdoff := s.report.conditions.holdoff.map (· - 1) } } }

/-- PART_TIME_TICK (R148). -/
def execPartTimeTick (s : State) : Out := .next s.overdueEvents.countTick

end Sys2Proof.Machine
end

