-- ==== Sys2Proof/Machine/Dispatch.lean ====
section
/-! DEFINITION. Every command's meaning, one arm per row of spec/opcode_table.json, in the table's order. -/

namespace Sys2Proof.Machine

def exec (i : Instr) (s : State) : Host.Outcome State Fault Refusal :=
  match i with
  | .deviceReset station speed => Sys2Proof.Machine.execDeviceReset station speed s
  | .fldRxFrame octets => Sys2Proof.Machine.execFldRxFrame octets s
  | .trkRxFrame octets => Sys2Proof.Machine.execTrkRxFrame octets s
  | .trunkIngressRoute => Sys2Proof.Machine.execTrunkIngressRoute s
  | .fieldEgressSend => Sys2Proof.Machine.execFieldEgressSend s
  | .passThroughGrant => Sys2Proof.Machine.execPassThroughGrant s
  | .replySlotGrant => Sys2Proof.Machine.execReplySlotGrant s
  | .refusalSlotGrant => Sys2Proof.Machine.execRefusalSlotGrant s
  | .conditionNoticeGrant => Sys2Proof.Machine.execConditionNoticeGrant s
  | .creditOutNotice => Sys2Proof.Machine.execCreditOutNotice s
  | .reportFrame => Sys2Proof.Machine.execReportFrame s
  | .partTimeTick => Sys2Proof.Machine.execPartTimeTick s
  | .entryDue => Sys2Proof.Machine.execEntryDue s
  | .paceBoundary => Sys2Proof.Machine.execPaceBoundary s
  | .holdTimerExpiry segment => Sys2Proof.Machine.execHoldTimerExpiry segment s
  | .autoCountdownExpiry => Sys2Proof.Machine.execAutoCountdownExpiry s
  | .holdoffEnd => Sys2Proof.Machine.execHoldoffEnd s
  | .testIntervalExpiry => Sys2Proof.Machine.execTestIntervalExpiry s
  | .copy => Sys2Proof.Machine.execCopy s
  | .handOver => Sys2Proof.Machine.execHandOver s
  | .eviction => Sys2Proof.Machine.execEviction s
  | .takeReleasedEntry => Sys2Proof.Machine.execTakeReleasedEntry s
  | .recordFetch wear => Sys2Proof.Machine.execRecordFetch wear s
  | .fillComputation wear => Sys2Proof.Machine.execFillComputation wear s
  | .runWrite wear => Sys2Proof.Machine.execRunWrite wear s
  | .application wear => Sys2Proof.Machine.execApplication wear s
  | .writeBack wear => Sys2Proof.Machine.execWriteBack wear s
  | .visit wear => Sys2Proof.Machine.execVisit wear s
  | .staleWrite wear => Sys2Proof.Machine.execStaleWrite wear s
  | .loadGrant wear => Sys2Proof.Machine.execLoadGrant wear s
  | .convertedRead wear => Sys2Proof.Machine.execConvertedRead wear s
  | .binReadAccess wear => Sys2Proof.Machine.execBinReadAccess wear s
  | .binScan wear => Sys2Proof.Machine.execBinScan wear s
  | .bankExchange => Sys2Proof.Machine.execBankExchange s
  | .restartCarriedOut => Sys2Proof.Machine.execRestartCarriedOut s
  | .tableWideClear => Sys2Proof.Machine.execTableWideClear s
  | .unknownRequest => Sys2Proof.Machine.execUnknownRequest s
  | .info => Sys2Proof.Machine.execInfo s
  | .timeSet => Sys2Proof.Machine.execTimeSet s
  | .paramSet => Sys2Proof.Machine.execParamSet s
  | .paramRead => Sys2Proof.Machine.execParamRead s
  | .binLoad => Sys2Proof.Machine.execBinLoad s
  | .binRead => Sys2Proof.Machine.execBinRead s
  | .curveLoad => Sys2Proof.Machine.execCurveLoad s
  | .curveRead wear => Sys2Proof.Machine.execCurveRead wear s
  | .curveSwap wear => Sys2Proof.Machine.execCurveSwap wear s
  | .zoneRead => Sys2Proof.Machine.execZoneRead s
  | .protect => Sys2Proof.Machine.execProtect s
  | .hold => Sys2Proof.Machine.execHold s
  | .release => Sys2Proof.Machine.execRelease s
  | .sweepStart => Sys2Proof.Machine.execSweepStart s
  | .sweepSuspend => Sys2Proof.Machine.execSweepSuspend s
  | .sweepResume => Sys2Proof.Machine.execSweepResume s
  | .sweepRead => Sys2Proof.Machine.execSweepRead s
  | .stop => Sys2Proof.Machine.execStop s
  | .clear => Sys2Proof.Machine.execClear s
  | .channelSet => Sys2Proof.Machine.execChannelSet s
  | .channelClose => Sys2Proof.Machine.execChannelClose s
  | .channelRead => Sys2Proof.Machine.execChannelRead s
  | .credit => Sys2Proof.Machine.execCredit s
  | .sync => Sys2Proof.Machine.execSync s
  | .alertSet => Sys2Proof.Machine.execAlertSet s
  | .alertRead => Sys2Proof.Machine.execAlertRead s
  | .alertClear => Sys2Proof.Machine.execAlertClear s
  | .snapshot => Sys2Proof.Machine.execSnapshot s
  | .statsRead => Sys2Proof.Machine.execStatsRead s
  | .testStart => Sys2Proof.Machine.execTestStart s
  | .testStop => Sys2Proof.Machine.execTestStop s
  | .testRead => Sys2Proof.Machine.execTestRead s
  | .restart => Sys2Proof.Machine.execRestart s
  | .lengthOctetError link octet => Sys2Proof.Machine.execLengthOctetError link octet s

end Sys2Proof.Machine
end

