-- ==== Sys2Proof/Safety.lean ====
section
/-! DEFINITION. What holds of the part in every state of a run, and the words in which the statements speak of what a
command changes. -/

namespace Sys2Proof.Machine

/-! ## What holds at device reset and after every command -/

/-- The FIFOs, queues and lists hold no more than their room (R15, R39, R135, R137, R139, R143), no two Recent
Arrivals entries have the same bin and sequence (R39), and each Park List entry belongs to a held segment or is
marked released (R16). -/
abbrev State.listsSound (s : State) : Prop :=
  s.field.ingress.length ≤ 32 ∧ s.field.egress.length ≤ 16 ∧ s.trunk.ingress.length ≤ 16
    ∧ s.trunk.passThrough.length ≤ 16 ∧ s.mgmt.queue.length ≤ 4 ∧ s.filter.entries.length ≤ 256
    ∧ s.table.park.length ≤ 32
    ∧ (s.filter.entries.map fun e => (e.bin, e.sequence)).Nodup
    ∧ ∀ p ∈ s.table.park, p.released = true ∨ s.isHeld p.reading.bin = true

/-- The zone that an entry summarises, if it is a zone summary. -/
def Item.summaryZone : Item → Option Nat
  | .summary zone => some zone
  | .notice _ => none

/-- The zones whose summaries stand in a channel's queue, head first. -/
def Channel.queuedZones (c : Channel) : List Nat := c.queue.filterMap fun e => e.item.summaryZone

/-- One Planner Channel (R100, R101, R105, R108, R109, R111): at most 64 entries, at most one summary for a zone, no
zone both queued and owed, zones owed only behind a full queue, credit and lost count in range, a CLOSED channel
empty, no OPEN channel exhausted, a STARVED channel without credit and with eligible entries, no due mark in a PROMPT
channel, and the due entries of a PACED channel together at the head. -/
abbrev Channel.sound (c : Channel) : Prop :=
  c.queue.length ≤ 64 ∧ c.queuedZones.Nodup ∧ (∀ z ∈ c.queuedZones, Bits.has z c.owed = false)
    ∧ (c.owed ≠ 0 → c.queue.length = 64) ∧ c.credit ≤ 255 ∧ c.lost ≤ 65535
    ∧ (c.state = .closed → c.queue = [] ∧ c.owed = 0 ∧ c.creditOut = none)
    ∧ c.exhausted = false ∧ (c.state = .starved → c.credit = 0 ∧ 0 < c.eligible)
    ∧ (c.mode = .prompt → ∀ e ∈ c.queue, e.due = false)
    ∧ c.queue.Pairwise fun e f => f.due = true → e.due = true

/-- Every Planner Channel is sound. -/
abbrev State.channelsSound (s : State) : Prop := ∀ e ∈ s.report.channels, e.2.sound

/-- A Fill State is a row of the table that opens chapter 5, with its values in the ranges of section 1.3 (R5, R70). -/
abbrev FillState.sound (f : FillState) : Prop :=
  (f.service ≠ .active → f.level = .unheard ∧ f.stale = false ∧ f.fallen = false ∧ f.filtered = none)
    ∧ (f.level = .unheard ↔ f.filtered = none) ∧ (f.lastRaw = none ↔ f.filtered = none)
    ∧ (f.service = .off ↔ f.countedZone = none) ∧ (f.filtered = none → f.countedLitres = 0)
    ∧ f.filtered.getD 0 ≤ 1000 ∧ f.lastRaw.getD 0 ≤ 1000 ∧ f.countedLitres ≤ 5000 ∧ f.countedZone.getD 0 ≤ 63
    ∧ f.outOfOrderRun ≤ 2 ∧ f.gapCount ≤ 255

/-- What the Reading Unit carries toward a Fill State lies in range (R50, R57). -/
def ReadingUnit.sound : ReadingUnit → Bool
  | .idle => true
  | .fetch _ => true
  | .runWrite _ _ run => run ≤ 2
  | .compute a => a.record.inRange && decide (a.fill.filtered.getD 0 ≤ 1000) && decide (a.gapCount ≤ 255)
  | .apply a (.held _) => a.record.inRange && decide (a.gapCount ≤ 255)
  | .apply a (.computed raw filtered _ litres) =>
    a.record.inRange && decide (a.gapCount ≤ 255) && decide (raw ≤ 1000) && decide (filtered ≤ 1000)
      && decide (litres ≤ 5000)

/-- The record that a BIN LOAD waits to write is in range (R19). -/
def Stage.sound : Stage → Bool
  | .load _ record _ => record.inRange
  | _ => true

/-- Every bin is sound (R2, R3, R5), and so is all that may reach one: the reading in hand, the record that waits to be
loaded, and the fills of every curve (R26). -/
abbrev State.binsSound (s : State) : Prop :=
  (∀ e ∈ s.table.bins, e.2.fill.sound ∧ e.2.record.inRange = true ∧ e.2.generation ≤ 255)
    ∧ s.reader.sound = true ∧ s.mgmt.stage.sound = true
    ∧ (∀ e ∈ s.curves.bankA, ∀ p ∈ e.2.points, p.fill ≤ 1000)
    ∧ ∀ e ∈ s.curves.bankB, ∀ p ∈ e.2.points, p.fill ≤ 1000

/-- The accepted reading that the Reading Unit carries through its computation and to its application. -/
def ReadingUnit.accepted : ReadingUnit → Option Accepted
  | .compute a => some a
  | .apply a _ => some a
  | _ => none

/-- The litres of a fill result that waits for its application are those of its filtered fill and the record kept at the
fetch (R70). -/
def ReadingUnit.litresFit : ReadingUnit → Bool
  | .apply a (.computed _ filtered _ litres) => litres == filtered * a.record.capacity / 1000
  | _ => true

/-- The bin and the record of a BIN LOAD that waits for its grant. -/
def Stage.loading : Stage → Option (Nat × BinRecord)
  | .load n record _ => some (n, record)
  | _ => none

/-- The number of bins that a CURVE SWAP has scanned (R35, R37). -/
def Stage.scanned : Stage → Option Nat
  | .scan n => some n
  | .exchange => some 4096
  | _ => none

/-- Every bin's counted litres are those of its filtered fill and its capacity (R70, R23), 0 while it has none; and the
reading in hand, while its bin has the load generation of the fetch, carries the bin's record, and the litres of its
fill result are those of that record. -/
abbrev State.litresAgree (s : State) : Prop :=
  (∀ e ∈ s.table.bins, e.2.fill.countedLitres = e.2.fill.filtered.getD 0 * e.2.record.capacity / 1000)
    ∧ (∀ a ∈ s.reader.accepted,
        (s.bin a.taken.reading.bin).generation = a.generation → (s.bin a.taken.reading.bin).record = a.record)
    ∧ s.reader.litresFit = true

/-- The load that waits for its grant does not bring the bin back to the generation that the reading in hand kept: that
takes 256 loads of the bin since the fetch, which Note 1 of section 1.2 says cannot be. -/
abbrev State.generationsApart (s : State) : Prop :=
  ∀ a ∈ s.reader.accepted, ∀ load ∈ s.mgmt.stage.loading, a.taken.reading.bin = load.1 →
    a.generation ≠ ((s.bin load.1).generation + 1) % 256

/-- A bank holds the curve that a record names. -/
abbrev State.holdsCurve (bank : Bank) (record : BinRecord) (s : State) : Prop :=
  (s.curves.slot bank record.curve).points ≠ []

/-- Every ACTIVE bin, and the record of the reading in hand, names a curve present in the active bank (R19, R31, R37); so
does a record that waits to be loaded in service; and the bins that a CURVE SWAP has scanned name curves present in the
load bank (R35). -/
abbrev State.curvesNamed (s : State) : Prop :=
  (∀ e ∈ s.table.bins, e.2.fill.service = .active → e.1 ≤ 4095 ∧ s.holdsCurve s.curves.active e.2.record)
    ∧ (∀ a ∈ s.reader.accepted, s.holdsCurve s.curves.active a.record)
    ∧ (∀ load ∈ s.mgmt.stage.loading,
        load.1 ≤ 4095 ∧ (load.2.inService = true → s.holdsCurve s.curves.active load.2))
    ∧ ∀ n ∈ s.mgmt.stage.scanned, ∀ e ∈ s.table.bins, e.2.fill.service = .active → e.1 < n →
        s.holdsCurve s.curves.active.other e.2.record

/-- The contributions of the bins counted in a zone (R86). -/
def State.contributionsIn (zone : Nat) (s : State) : List Contribution :=
  (s.table.bins.map fun e => e.2.fill.contribution).filter fun c => c.zone == some zone

/-- The tally of a zone agrees with the Bin Table (R90). -/
abbrev State.tallyAgrees (zone : Nat) (s : State) : Prop :=
  let t := s.report.tally zone
  let members := s.contributionsIn zone
  t.members = members.length ∧ t.full = members.countP (·.full) ∧ t.near = members.countP (·.near)
    ∧ t.stale = members.countP (·.stale) ∧ t.fallen = members.countP (·.fallen) ∧ t.fault = members.countP (·.fault)
    ∧ t.litres = (members.map (·.litres)).sum

/-- Every tally agrees with the Bin Table (R90). -/
abbrev State.talliesAgree (s : State) : Prop :=
  Table.rising none s.table.bins = true ∧ Table.rising none s.report.zones = true ∧ ∀ z < 64, s.tallyAgrees z

/-- The Sweep Engine (R120, R123, R126): while a sweep is under way its range is consistent, its cursor lies within the
range, and it has made one visit for each bin from the first to the cursor; a visit is in progress exactly while
RUNNING; and an IDLE engine has no sweep due. -/
abbrev SweepEngine.sound (e : SweepEngine) : Prop :=
  (e.state ≠ .idle →
    rangeConsistent e.first e.last e.direction = true ∧ e.first ≤ 4095 ∧ e.last ≤ 4095
      ∧ min e.first e.last ≤ e.cursor ∧ e.cursor ≤ max e.first e.last ∧ e.visited = gapBetween e.cursor e.first)
    ∧ (e.state = .running ↔ e.stage ≠ .none) ∧ (e.state = .idle → e.autoDue = false)

/-- A request that changes the tables is in service: a BIN LOAD before its grant, or a CURVE SWAP (R146). -/
def Stage.changesTables : Stage → Bool
  | .load _ _ _ => true
  | .converted _ => true
  | .scan _ => true
  | .exchange => true
  | _ => false

/-- The head request has been taken and not yet answered (R143). -/
def Stage.serving : Stage → Bool
  | .load _ _ _ => true
  | .converted _ => true
  | .binRead _ => true
  | .scan _ => true
  | .exchange => true
  | .suspend => true
  | _ => false

/-- The Management Unit: while it is locked, no request that changes the tables is in service (R146); the request in
service and the request that a waiting reply answers stand at the head of the queue, and no request is in service
while a reply waits (R143). -/
abbrev ManagementUnit.sound (m : ManagementUnit) : Prop :=
  (m.lock = none ∨ m.stage.changesTables = false)
    ∧ (m.stage.serving = true → m.queue ≠ [] ∧ m.reply = none)
    ∧ (m.reply ≠ none → m.queue ≠ [] ∧ (m.stage = .idle ∨ m.stage = .restartReply))
    ∧ (m.stage = .restartReply → m.reply ≠ none)

/-- Every numbered store is in its canonical form, so that equal stores are equal lists. -/
abbrev State.storesCanonical (s : State) : Prop :=
  Table.wf Bin.reset s.table.bins = true ∧ Table.wf Slot.absent s.curves.bankA = true
    ∧ Table.wf Slot.absent s.curves.bankB = true ∧ Table.wf Tally.zero s.report.zones = true
    ∧ Table.wf Channel.reset s.report.channels = true ∧ Table.wf Counter.zero s.report.conditions.counters = true
    ∧ Table.wf 0 s.field.activity = true ∧ Table.rising none s.table.held = true

/-! ## Management requests -/

/-- The Management Unit may take the request `r`, which is well formed of kind `k`: it is at the head of the queue, none
is in service, and the reply slot is empty (R143, R144). -/
abbrev State.offers (k : RequestKind) (r : Request) (s : State) : Prop :=
  s.mgmt.stage = .idle ∧ s.mgmt.reply = none ∧ s.mgmt.queue.head? = some r ∧ r.kind = k.code
    ∧ r.args.length = k.argLength r.args

/-- The reply to a request of kind `k` placed in the reply slot, and the request recorded in the command history
(R144, R147); nothing else changes. -/
def State.answered (k : RequestKind) (r : Request) (result : ResultCode) (content : List Octet) (s : State) : State :=
  { s with
    mgmt :=
      { s.mgmt with
        reply := some { destination := r.source, tag := r.tag, kind := r.kind, result := result, content := content }
        stage := .idle, newer := .kind k, older := s.mgmt.newer } }

/-- The Management Unit locked with a reason and a number, LOCKED risen, and the request answered LOCKED with both
(R36, R122, R146). -/
def State.lockedBy (k : RequestKind) (r : Request) (reason : LockReason) (number : Nat) (s : State) : State :=
  ({ s with
      mgmt := { s.mgmt with lock := some (reason, number) }
      report := { s.report with conditions := s.report.conditions.lockRises } }).answered k r .locked
    (reason.code :: beOctets 2 number)

/-- The request kind that a command serves. -/
def servedKind : Instr → Option RequestKind
  | .info => some .info | .timeSet => some .timeSet | .paramSet => some .paramSet | .paramRead => some .paramRead
  | .binLoad => some .binLoad | .binRead => some .binRead
  | .curveLoad => some .curveLoad | .curveRead _ => some .curveRead | .curveSwap _ => some .curveSwap
  | .zoneRead => some .zoneRead | .protect => some .protect | .hold => some .hold | .release => some .release
  | .sweepStart => some .sweepStart | .sweepSuspend => some .sweepSuspend | .sweepResume => some .sweepResume
  | .sweepRead => some .sweepRead | .stop => some .stop | .clear => some .clear
  | .channelSet => some .channelSet | .channelClose => some .channelClose | .channelRead => some .channelRead
  | .credit => some .credit | .sync => some .sync
  | .alertSet => some .alertSet | .alertRead => some .alertRead | .alertClear => some .alertClear
  | .snapshot => some .snapshot | .statsRead => some .statsRead
  | .testStart => some .testStart | .testStop => some .testStop | .testRead => some .testRead
  | .restart => some .restart
  | .deviceReset _ _ | .fldRxFrame _ | .trkRxFrame _ | .trunkIngressRoute | .fieldEgressSend | .passThroughGrant
  | .replySlotGrant | .refusalSlotGrant | .conditionNoticeGrant | .creditOutNotice | .reportFrame | .partTimeTick
  | .entryDue | .paceBoundary | .holdTimerExpiry _ | .autoCountdownExpiry | .holdoffEnd | .testIntervalExpiry
  | .copy | .handOver | .eviction | .takeReleasedEntry | .recordFetch _ | .fillComputation _ | .runWrite _
  | .application _ | .writeBack _ | .visit _ | .staleWrite _ | .loadGrant _ | .convertedRead _ | .binReadAccess _
  | .binScan _ | .bankExchange | .restartCarriedOut | .tableWideClear | .unknownRequest | .lengthOctetError _ _ => none

/-- The table-changing request kinds (R146). -/
def RequestKind.tableChanging : RequestKind → Bool
  | .binLoad | .curveLoad | .curveSwap | .protect | .sweepStart => true
  | .info | .timeSet | .paramSet | .paramRead | .binRead | .curveRead | .zoneRead | .hold | .release | .sweepSuspend
  | .sweepResume | .sweepRead | .stop | .clear | .channelSet | .channelClose | .channelRead | .credit | .sync
  | .alertSet | .alertRead | .alertClear | .snapshot | .statsRead | .testStart | .testStop | .testRead
  | .restart => false

/-! ## Accesses to the Bin Table -/

/-- The place of a requester in the cyclic order (R10). -/
def Requester.place : Requester → Nat
  | .readingUnit => 0
  | .arrivalFilter => 1
  | .sweepEngine => 2
  | .managementUnit => 3

/-- How many requesters stand between the one granted last and another, in the cyclic order (R10). -/
def Requester.wait (last r : Requester) : Nat := (r.place + 3 - last.place) % 4

/-- The bin whose record a command reads in its table port grant (R6), with the wear that the read meets: the record
fetch, the visit, the converted read, the read of a BIN READ and a read of the bin scan. -/
def State.recordRead (c : Instr) (s : State) : Option (Nat × Wear) :=
  match c, s.reader, s.mgmt.stage, s.portGrant with
  | .recordFetch w, .fetch t, _, some .readingUnit => some (t.reading.bin, w)
  | .visit w, _, _, some .sweepEngine => if s.sweep.stage = .read then some (s.sweep.cursor, w) else none
  | .convertedRead w, _, .converted n, some .managementUnit => some (n, w)
  | .binReadAccess w, _, .binRead n, some .managementUnit => some (n, w)
  | .binScan w, _, .scan n, some .managementUnit => some (n, w)
  | _, _, _, _ => none

/-- What a record read or a load grant that finds the record readable does before its own work (R6, R7): a correctable
record without a repair mark gets the mark, is counted and raises ECC-FIX; any other is left, or rewritten, with a good
check. -/
def State.readThrough (requester : Requester) (number : Nat) (wear : Wear) (s : State) : State :=
  let b := s.bin number
  let t := { s with table := { s.table with lastGrant := requester } }
  if worn wear b.badBits = 1 ∧ b.repair = false then
    ((t.setBin number { b with repair := true, badBits := 1 }).count .recordCorrection 1).raise .eccFix
  else t.setBin number { b with repair := false, badBits := 0 }

/-- The bin as a fill write that finds no damage comes to it (R6, R7): with a repair mark it has been rewritten with a
good check, and without one its record has not been tested. -/
def State.writtenBin (number : Nat) (wear : Wear) (s : State) : Bin :=
  let b := s.bin number
  if b.repair = true then { b with repair := false, badBits := 0 } else { b with badBits := worn wear b.badBits }

/-- What a fill write that finds no damage does before its own work (R6, R7). -/
def State.writeThrough (requester : Requester) (number : Nat) (wear : Wear) (s : State) : State :=
  { s with table := { s.table with lastGrant := requester } }.setBin number (s.writtenBin number wear)

/-- What an access that finds the record damaged does before its own work (R6 to R8, R78): the repair mark is cleared,
the damage counted and ECC-DAMAGE raised, and an ACTIVE bin enters FAULT, with its contribution change and then its FAULT
notice, which carries the test marker `test`. -/
def State.foundDamaged (requester : Requester) (test : Bool) (number : Nat) (wear : Wear) (s : State) : State :=
  let b := { s.bin number with repair := false, badBits := worn wear (s.bin number).badBits }
  let fault :=
    { b.fill with
      service := .fault, level := .unheard, filtered := none, lastRaw := none, stale := false, fallen := false
      countedLitres := 0 }
  let t :=
    (({ s with table := { s.table with lastGrant := requester } }.setBin number b).count .recordDamage 1).raise .eccDamage
  if b.fill.service = .active then
    ((t.setBin number { b with fill := fault }).postChange b.fill fault).notify 0 number none test fault .fault
  else t

/-! ## What a command leaves as it was -/

/-- A statistics counter, by its name. -/
def State.counter (c : Ctr) (s : State) : Counter := s.report.conditions.counter c.index

/-- The parts of the state that a frame names. -/
inductive Part where
  | field | trunk | filter | reader | bins | segments | park | port | curves | tallies | channels | boundary
  | conditions | counters | sweep | mgmt | test | freeCount | pending
deriving DecidableEq, Repr

/-- One part of the state is the same in two states. -/
def State.same (s t : State) : Part → Prop
  | .field => t.field = s.field
  | .trunk => t.trunk = s.trunk
  | .filter => t.filter = s.filter
  | .reader => t.reader = s.reader
  | .bins => ∀ n, t.bin n = s.bin n
  | .segments => t.table.protectedSegments = s.table.protectedSegments ∧ t.table.held = s.table.held
  | .park => t.table.park = s.table.park
  | .port => t.table.lastGrant = s.table.lastGrant
  | .curves => t.curves.active = s.curves.active ∧ ∀ bank n, t.curves.slot bank n = s.curves.slot bank n
  | .tallies => ∀ z, t.report.tally z = s.report.tally z
  | .channels => ∀ n, t.report.channel n = s.report.channel n
  | .boundary => t.report.boundary = s.report.boundary
  | .conditions =>
    { t.report.conditions with counters := [] } = { s.report.conditions with counters := [] }
  | .counters => ∀ c, t.counter c = s.counter c
  | .sweep => t.sweep = s.sweep
  | .mgmt => t.mgmt = s.mgmt
  | .test => t.test = s.test
  | .freeCount => t.freeCount = s.freeCount
  | .pending => t.pending = s.pending

/-- Every part but those listed is left as it was. -/
def State.keepsAllBut (changed : List Part) (s t : State) : Prop := ∀ p, p ∉ changed → s.same t p

end Sys2Proof.Machine
end

