-- ==== Sys2Proof/Certificates/Slice0/Obligations.lean ====
section
/-! DEFINITION. The statements for the provers, family by family. -/

open Sys2Proof Sys2Proof.Machine

/-! ## The machine as a whole -/

/-- The queue of commands: a step executes the command at the front on the state with the queue's rest, and on an
empty queue the part idles (log entry 2: the model's choice). -/
def Obligations.StepRunsTheFrontCommand : Prop :=
  (∀ (c : Instr) (rest : List Instr) (s : State),
      s.pending = c :: rest → step s = exec c { s with pending := rest })
    ∧ ∀ s : State, s.pending = [] → step s = .next s

/-- Every command answers a next state and leaves the queue alone, also in a state in which its step does not come about
and nothing changes (log entry 1: the model's choice); the one stop is FILL_COMPUTATION for a reading past
its hold tests whose curve slot is absent from the active bank, which R31 says does not happen (log entry 10). -/
def Obligations.EveryCommandAnswersANextState : Prop :=
  ∀ (c : Instr) (s : State),
    (∃ t, exec c s = .next t ∧ t.pending = s.pending)
      ∨ (exec c s = .fault .curveAbsent
          ∧ ∃ wear a time, c = .fillComputation wear ∧ s.reader = .compute a
              ∧ echoStage a.record.kind a.taken.reading = .echo time
              ∧ (s.curves.slot s.curves.active a.record.curve).points = [])

/-- Device reset, from every state and for every setting of the straps (R2, R4, R25, R28, R39, R45, R98, R100, R118,
R142, R143, R146 to R148, R150, R153, R156 to R158).  Only the model's own two fields stay. -/
def Obligations.DeviceResetGivesTheResetState : Prop :=
  ∀ (station : BitVec 4) (speed : BitVec 2) (s : State), ∃ t, exec (.deviceReset station speed) s = .next t
    ∧ (∀ n, t.bin n =
        { record :=
            { inService := false, tag := 0, kind := .litter, testBin := false, zone := 0, curve := 0
              emptyDepth := 1000, capacity := 100, warn := 600, collect := 800, hysteresis := 50, weight := 4
              silenceLimit := none, selection := 0 }
          generation := 0, repair := false, badBits := 0
          fill :=
            { service := .off, level := .unheard, stale := false, fallen := false, filtered := none, lastRaw := none
              lastSequence := none, outOfOrderRun := 0, gapCount := 0, lastHeard := 0, lastEmptied := none
              reception := none, countedZone := none, countedLitres := 0 } })
    ∧ t.table.protectedSegments = 0 ∧ t.table.held = [] ∧ t.table.park = [] ∧ t.table.lastGrant = .managementUnit
    ∧ t.curves.active = .a ∧ (∀ bank n, (t.curves.slot bank n).points = [] ∧ (t.curves.slot bank n).badBits = 0
        ∧ (t.curves.slot bank n).damaged = false)
    ∧ t.filter = { entries := [], retiring := none } ∧ t.reader = .idle
    ∧ (∀ z, t.report.tally z = { members := 0, full := 0, near := 0, stale := 0, fallen := 0, fault := 0, litres := 0, reference := 0 })
    ∧ (∀ n, t.report.channel n =
        { state := .closed, destination := 0, zones := 0, mode := .prompt, credit := 0, queue := [], owed := 0
          lost := 0, creditOut := none })
    ∧ t.sweep =
        { state := .idle, mode := .manual, first := 0, last := 0, direction := .up, cursor := 0, visited := 0
          found := 0, countdown := some 3600, expired := false, autoDue := false, stage := .none }
    ∧ t.field.rx = ⟨.hunt, []⟩ ∧ t.trunk.rx = ⟨.hunt, []⟩ ∧ t.field.tx = none ∧ t.trunk.tx = none
    ∧ t.field.ingress = [] ∧ t.field.egress = [] ∧ t.trunk.ingress = [] ∧ t.trunk.passThrough = []
    ∧ t.trunk.refusal = none ∧ (∀ lane, Table.get 0 lane t.field.activity = 0)
    ∧ t.trunk.lastClass = .passThrough ∧ t.trunk.lastChannel = 7
    ∧ t.mgmt =
        { queue := [], reply := none, stage := .idle, lock := none, newer := .none, older := .none, partTime := 0
          params :=
            { dedupHold := 3, silenceLimit := 21600, sweepInterval := 3600, pacePeriod := 300, emptiedDrop := 300
              summaryStep := 500, holdLimit := 300 }
          station := station.toNat, speed := speed.toNat }
    ∧ t.raisedFlags = 0 ∧ (∀ f : Flag, Bits.has f.index t.report.conditions.enabled = (f != .fieldHalf))
    ∧ t.report.conditions.address = none ∧ t.report.conditions.noticeWaiting = false
    ∧ t.report.conditions.holdoff = none ∧ t.report.conditions.gainInHoldoff = false
    ∧ t.report.conditions.lastSent = 0 ∧ (∀ c, t.counter c = { live := 0, snap := 0, changed := false })
    ∧ t.report.conditions.snapshotTime = 0
    ∧ t.test =
        { running := false
          args := { first := 0, last := 0, tag := 0, startDistance := 0, step := 0, interval := 0, mode := .mix }
          bin := 0, distance := 0, sequence := 0, generated := 0, applied := 0 }
    ∧ t.freeCount = s.freeCount ∧ t.pending = s.pending

/-- The part after device reset meets every invariant stated below. -/
def Obligations.ResetMeetsTheInvariants : Prop :=
  ∀ station speed : Nat,
    (State.resetWith station speed).storesCanonical ∧ (State.resetWith station speed).listsSound
      ∧ (State.resetWith station speed).channelsSound ∧ (State.resetWith station speed).binsSound
      ∧ (State.resetWith station speed).talliesAgree ∧ (State.resetWith station speed).sweep.sound
      ∧ (State.resetWith station speed).mgmt.sound ∧ (State.resetWith station speed).litresAgree
      ∧ (State.resetWith station speed).curvesNamed

/-- Every step keeps every numbered store in its canonical form: that a store lists only what differs from the manual's
reset entries, in rising order of the numbers, is the model's choice (log entry 21). -/
def Obligations.StepKeepsStoresCanonical : Prop :=
  ∀ s t : State, s.storesCanonical → step s = .next t → t.storesCanonical

/-- Every step keeps the capacities of the lists, the Recent Arrivals entries distinct, and every parked reading held
or released (R15, R16, R39, R135, R137, R139, R143). -/
def Obligations.StepKeepsListsSound : Prop := ∀ s t : State, s.listsSound → step s = .next t → t.listsSound

/-- Every step keeps every Planner Channel sound (R100, R101, R105, R108, R109). -/
def Obligations.StepKeepsChannelsSound : Prop := ∀ s t : State, s.channelsSound → step s = .next t → t.channelsSound

/-- Every step keeps every bin's status a row of the table of chapter 5, with its values in range (R5, R70); the counted
litres those of the filtered fill and the capacity (R23, R70), while no load brings back the generation under a reading in
hand, which the manual says cannot be (section 1.2, Note 1); and every ACTIVE bin naming a curve present in the active
bank, so that no step stops for want of a curve (R19, R31, R35, R37). -/
def Obligations.StepKeepsBinsSound : Prop :=
  (∀ s t : State, s.binsSound → step s = .next t → t.binsSound)
    ∧ (∀ s t : State, s.storesCanonical → s.generationsApart → s.litresAgree → step s = .next t → t.litresAgree)
    ∧ ∀ s : State, s.storesCanonical → s.curvesNamed → ∃ t, step s = .next t ∧ t.curvesNamed

/-- Every step keeps the tallies in agreement with the Bin Table (R90). -/
def Obligations.StepKeepsTalliesInAgreement : Prop :=
  ∀ s t : State, s.talliesAgree → step s = .next t → t.talliesAgree

/-- Every step keeps the sweep within its range, its visits counted, and no sweep due while the engine is IDLE (R120,
R126).  That a visit is in progress from the step that starts a sweep on is the model's choice (log entry 24). -/
def Obligations.StepKeepsSweepSound : Prop := ∀ s t : State, s.sweep.sound → step s = .next t → t.sweep.sound

/-- Every step keeps the Management Unit to one request at a time, and a locked unit out of table-changing requests
(R143, R146). -/
def Obligations.StepKeepsManagementSound : Prop := ∀ s t : State, s.mgmt.sound → step s = .next t → t.mgmt.sound

/-- While the Management Unit is locked, no Bin Record, curve, active-bank mark or protected set changes, except by
device reset (R146). -/
def Obligations.LockedUnitKeepsItsTables : Prop :=
  ∀ (c : Instr) (s t : State), s.storesCanonical → s.mgmt.sound → s.mgmt.lock ≠ none →
    (∀ station speed, c ≠ .deviceReset station speed) → exec c s = .next t →
      (∀ n, (t.bin n).record = (s.bin n).record ∧ (t.bin n).generation = (s.bin n).generation)
        ∧ (∀ bank n, (t.curves.slot bank n).points = (s.curves.slot bank n).points)
        ∧ t.curves.active = s.curves.active ∧ t.table.protectedSegments = s.table.protectedSegments

/-- What changes Part Time, the protected set, a load generation and a channel's credit.  Part Time changes by the tick,
never past its maximum, by TIME SET and by device reset alone (R148, R149, R152); the protected set by PROTECT and by
device reset (R11, R25); a load generation by LOAD_GRANT, by 1 modulo 256, and by device reset (R3); a credit rises
by CREDIT alone, to at most 255, and falls by a REPORT frame, which spends one, and otherwise only by CHANNEL CLOSE,
RESTART and device reset (R108, R111, R113, R117). -/
def Obligations.SettingsChangeByTheirOwnCommandsAlone : Prop :=
  (∀ (c : Instr) (s t : State), exec c s = .next t →
      t.now = s.now ∨ (c = .partTimeTick ∧ t.now = s.now + 1 ∧ s.now < 4294967295) ∨ c = .timeSet
        ∨ ∃ station speed, c = .deviceReset station speed)
    ∧ (∀ (c : Instr) (s t : State), exec c s = .next t →
      t.table.protectedSegments = s.table.protectedSegments ∨ c = .protect
        ∨ ∃ station speed, c = .deviceReset station speed)
    ∧ (∀ (c : Instr) (s t : State) (n : Nat), s.storesCanonical → exec c s = .next t →
      (t.bin n).generation = (s.bin n).generation
        ∨ ((∃ wear, c = .loadGrant wear) ∧ (t.bin n).generation = ((s.bin n).generation + 1) % 256)
        ∨ ∃ station speed, c = .deviceReset station speed)
    ∧ (∀ (c : Instr) (s t : State) (n : Nat), exec c s = .next t →
      (s.report.channel n).credit < (t.report.channel n).credit → c = .credit ∧ (t.report.channel n).credit ≤ 255)
    ∧ ∀ (c : Instr) (s t : State) (n : Nat), exec c s = .next t →
      (s.report.channel n).credit ≤ 255 → (t.report.channel n).credit < (s.report.channel n).credit →
        (c = .reportFrame ∧ (t.report.channel n).credit + 1 = (s.report.channel n).credit)
          ∨ (c = .channelClose ∧ (t.report.channel n).state = .closed) ∨ c = .restartCarriedOut
          ∨ ∃ station speed, c = .deviceReset station speed

/-! ## Links and traffic (chapter 9) -/

/-- A receiver in HUNT that is fed the octets of any frame goes on with each octet but the last, and then has received
exactly that frame and hunts again, holding nothing (R132, R133). -/
def Obligations.ReceiverFindsEveryFrame : Prop :=
  ∀ f : Frame, f.payload.length ≤ 248 → ∃ rx : Receiver, ∃ last : Octet,
    f.octets.getLast? = some last
      ∧ f.octets.dropLast.foldlM
          (fun (r : Receiver) octet => match r.take octet with
            | .goOn r' => some r'
            | .received _ _ => none
            | .error _ _ => none)
          ⟨.hunt, []⟩ = some rx
      ∧ rx.take last = .received ⟨.hunt, []⟩ f

/-- Receive errors (R133): a length octet above 248 and a CRC that does not match return to HUNT every octet taken since
the sync pair; the taking again always comes to an end, the bound on it never cutting it short; and a receiver in LENGTH
that takes an octet of 249 to 255 counts the error for its link, raises LINK-CRC, counts a missing stop bit, and hunts. -/
def Obligations.ReceiveErrorsAreCountedAndRetaken : Prop :=
  ((∀ (rx : Receiver) (octet : Octet), rx.state = .length → 248 < octet.toNat →
        rx.take octet = .error ⟨.hunt, []⟩ (rx.taken ++ [octet]))
      ∧ ∀ (length cls : Octet) (payload : List Octet) (high low : Octet), payload.length = length.toNat →
          crc16 (length :: cls :: payload) ≠ high ++ low →
          (⟨.crc, length :: cls :: payload ++ [high]⟩ : Receiver).take low
            = .error ⟨.hunt, []⟩ (length :: cls :: payload ++ [high, low]))
    ∧ (∀ (l : Link) (s : State) (octet : Octet) (n : Nat), takings (s.receiver l) ≤ n →
      s.takeOctets l n [octet] = s.takeOctets l (takings (s.receiver l)) [octet])
    ∧ ∀ (octet : LineOctet) (s : State), 248 < octet.value.toNat →
      (s.field.rx = ⟨.length, []⟩ →
        exec (.lengthOctetError .field octet) s = .next
          { (((if octet.stopBit then s else s.count .fieldLineError 1).count .fieldCrcError 1).raise .linkCrc) with
            field := { s.field with rx := ⟨.hunt, []⟩ } })
      ∧ (s.trunk.rx = ⟨.length, []⟩ →
        exec (.lengthOctetError .trunk octet) s = .next
          { (((if octet.stopBit then s else s.count .trunkLineError 1).count .trunkCrcError 1).raise .linkCrc) with
            trunk := { s.trunk with rx := ⟨.hunt, []⟩ } })

/-- A frame that arrives whole on FLD_RX, its receiver in HUNT: a well-formed SENSOR frame is offered to the field
ingress FIFO, a FOREIGN frame to the pass-through queue, and any other is malformed (R134, R135, R136, R139). -/
def Obligations.FieldFrameIsJudgedAndOffered : Prop :=
  ∀ (f : Frame) (s : State), f.payload.length ≤ 248 → s.field.rx = ⟨.hunt, []⟩ →
    let r := readSensor f.payload
    let joined :=
      { s with
        field :=
          { s.field with
            ingress := s.field.ingress ++ [r]
            activity := Table.set 0 r.lane ((Table.get 0 r.lane s.field.activity + 1) % 256) s.field.activity } }
    exec (.fldRxFrame (f.octets.map fun octet => ⟨octet, true⟩)) s = .next
      (if f.cls = 0x01 ∧ sensorWellFormed f.payload = true then
        if s.test.running = true ∧ s.test.args.mode = .replace then s.count .replaceDrop 1
        else if 32 ≤ s.field.ingress.length then (s.count .fieldIngressDrop 1).raise .fieldFull
        else if s.field.ingress.length = 15 then joined.raise .fieldHalf
        else joined
      else if f.cls = 0x02 then
        if 16 ≤ s.trunk.passThrough.length then (s.count .passThroughDrop 1).raise .passFull
        else { s with trunk := { s.trunk with passThrough := s.trunk.passThrough ++ [f.payload] } }
      else s.count .fieldMalformed 1)

/-- A frame that arrives whole on TRK_RX, its receiver in HUNT: a FOREIGN frame and a REQUEST for this station are
offered to the trunk ingress FIFO, a REQUEST for another station is counted and dropped, and any other frame, a REQUEST
shorter than its header among them, is malformed (R134, R137). -/
def Obligations.TrunkFrameIsJudgedAndOffered : Prop :=
  ∀ (f : Frame) (s : State), f.payload.length ≤ 248 → s.trunk.rx = ⟨.hunt, []⟩ →
    let offered := fun (frame : TrunkFrame) =>
      if 16 ≤ s.trunk.ingress.length then (s.count .trunkIngressDrop 1).raise .trunkFull
      else { s with trunk := { s.trunk with ingress := s.trunk.ingress ++ [frame] } }
    exec (.trkRxFrame (f.octets.map fun octet => ⟨octet, true⟩)) s = .next
      (if f.cls = 0x02 then offered (.foreign f.payload)
      else if f.cls = 0x10 ∧ 6 ≤ f.payload.length then
        if (octetAt 0 f.payload).toNat = s.mgmt.station then
          offered (.request
            { source := fieldAt 1 2 f.payload, tag := fieldAt 3 2 f.payload, kind := octetAt 5 f.payload
              args := f.payload.drop 6 })
        else s.count .otherStation 1
      else s.count .trunkMalformed 1)

/-- The head of the trunk ingress FIFO is routed: a FOREIGN frame to the field egress queue or dropped with PASS-FULL,
a REQUEST to the request queue, or answered BUSY from the empty refusal slot, or lost (R137, R138, R139).  That the BUSY
reply to a CURVE READ too carries no content is a reading of R138 against section 12.7 (log entry 22). -/
def Obligations.TrunkIngressIsRouted : Prop :=
  ∀ (f : TrunkFrame) (rest : List TrunkFrame) (s : State), s.trunk.ingress = f :: rest →
    let t := { s with trunk := { s.trunk with ingress := rest } }
    exec .trunkIngressRoute s = .next
      (match f with
      | .foreign payload =>
        if 16 ≤ s.field.egress.length then (t.count .fieldEgressDrop 1).raise .passFull
        else { t with field := { s.field with egress := s.field.egress ++ [payload] } }
      | .request r =>
        if s.mgmt.queue.length < 4 then { t with mgmt := { s.mgmt with queue := s.mgmt.queue ++ [r] } }
        else if s.trunk.refusal = none then
          ({ t with
            trunk :=
              { t.trunk with
                refusal :=
                  some { destination := r.source, tag := r.tag, kind := r.kind, result := .busy, content := [] } } }).count
            .requestRefused 1
        else t.count .requestLost 1)

/-- FOREIGN frames leave from the heads of their queues with their payloads unchanged: on FLD_TX whenever there is one,
on TRK_TX when the arbiter grants the pass-through class (R139, R140).  That a transmitter is free at every step, and a
frame sent whole in its own, is the model's choice (log entry 6).  A granted reply is sent and its request leaves the
request queue; a granted refusal leaves its slot empty; a RESTART is due once its reply is granted (R141, R143, R152). -/
def Obligations.WaitingFramesAreSent : Prop :=
  (∀ (payload : List Octet) (rest : List (List Octet)) (s : State),
      (s.field.egress = payload :: rest →
        exec .fieldEgressSend s = .next
          { s with field := { s.field with egress := rest, tx := some (Frame.octets { cls := 0x02, payload := payload }) } })
      ∧ (s.trunk.passThrough = payload :: rest → s.ownSource = none ∨ s.trunk.lastClass = .own →
        exec .passThroughGrant s = .next
          { s with
            trunk :=
              { s.trunk with
                passThrough := rest, tx := some (Frame.octets { cls := 0x02, payload := payload })
                lastClass := .passThrough } }))
    ∧ ∀ (r : Reply) (s : State), s.trunk.passThrough = [] ∨ s.trunk.lastClass = .passThrough →
      (s.mgmt.reply = some r →
        exec .replySlotGrant s = .next
          { s with
            mgmt :=
              { s.mgmt with
                reply := none, queue := s.mgmt.queue.tail
                stage := if s.mgmt.stage = .restartReply then .restartDue else s.mgmt.stage }
            trunk := { s.trunk with tx := some (r.frame s.mgmt.station).octets, lastClass := .own } })
      ∧ (s.mgmt.reply = none → s.trunk.refusal = some r →
        exec .refusalSlotGrant s = .next
          { s with
            trunk := { s.trunk with refusal := none, tx := some (r.frame s.mgmt.station).octets, lastClass := .own } })

/-- What the trunk egress arbiter grants (R140, R141): nothing when nothing waits; when both classes wait, the class it
did not grant last; among its own frames the reply, then the refusal, then the condition notice, and then the first
channel with a standing request after the channel it granted last. -/
def Obligations.EgressArbiterFollowsItsOrder : Prop :=
  ∀ s : State,
    (s.egressGrant = none ↔ s.ownSource = none ∧ s.trunk.passThrough = [])
    ∧ (s.trunk.passThrough ≠ [] → s.ownSource ≠ none →
        s.egressGrant = if s.trunk.lastClass = .own then some .passThrough else s.ownSource)
    ∧ (s.trunk.passThrough = [] → s.egressGrant = s.ownSource)
    ∧ (s.trunk.passThrough ≠ [] → s.ownSource = none → s.egressGrant = some .passThrough)
    ∧ (s.ownSource = some .reply ↔ s.mgmt.reply ≠ none)
    ∧ (s.ownSource = some .refusal ↔ s.mgmt.reply = none ∧ s.trunk.refusal ≠ none)
    ∧ (s.ownSource = some .notice ↔
        s.mgmt.reply = none ∧ s.trunk.refusal = none ∧ s.report.conditions.noticeWaiting = true
          ∧ s.report.conditions.address ≠ none)
    ∧ ∀ n, s.ownSource = some (.channel n) ↔
        s.mgmt.reply = none ∧ s.trunk.refusal = none
          ∧ (s.report.conditions.noticeWaiting = false ∨ s.report.conditions.address = none)
          ∧ n < 8 ∧ (s.report.channel n).requests = true
          ∧ ∀ m < 8, (s.report.channel m).requests = true →
              (n + 7 * (s.trunk.lastChannel + 1)) % 8 ≤ (m + 7 * (s.trunk.lastChannel + 1)) % 8

/-! ## Conditions, reports and the tick (chapters 7, 10 and 11) -/

/-- Raising a condition flag (R153, R155): a flag already raised changes nothing; a flag raised from clear is a gain of
the alert set when it is enabled, and then, with an alert address and no notice waiting, a running holdoff keeps the
gain and otherwise a notice waits; every other flag stays.  Counting (R157): the live value rises by the amount and stops
at 4,294,967,295, the changed flag is set exactly when the live value changes, and every other counter stays. -/
def Obligations.FlagsAndCountersFollowTheirRules : Prop :=
  (∀ (f : Flag) (u : ConditionUnit),
      (∀ g : Flag, Bits.has g.index (u.raise f).raised = (g == f || Bits.has g.index u.raised))
      ∧ (Bits.has f.index u.raised = true → u.raise f = u)
      ∧ (u.raise f).noticeWaiting =
          (u.noticeWaiting
            || (!Bits.has f.index u.raised && Bits.has f.index u.enabled && u.address.isSome && u.holdoff.isNone))
      ∧ (u.raise f).gainInHoldoff =
          (u.gainInHoldoff
            || (!Bits.has f.index u.raised && Bits.has f.index u.enabled && u.address.isSome && !u.noticeWaiting
                && u.holdoff.isSome))
      ∧ u.raise f =
          { u with
            raised := (u.raise f).raised, noticeWaiting := (u.raise f).noticeWaiting
            gainInHoldoff := (u.raise f).gainInHoldoff })
    ∧ ∀ (c d : Ctr) (amount : Nat) (s : State),
      let before := s.counter d
      (s.count c amount).counter d =
          (if d = c then
            { live := min (before.live + amount) 4294967295, snap := before.snap
              changed := before.changed || decide (min (before.live + amount) 4294967295 ≠ before.live) }
          else before)
        ∧ s.keepsAllBut [.counters] (s.count c amount)

/-- A granted condition notice is formed with the alert set and the raised flags as they stand and sent to the alert
address; no notice waits, the set sent is remembered, and the holdoff becomes 10 (R155).  At the end of the holdoff it
is absent and no gain is kept; a notice waits when a gain came in it, an alert address is present, and the alert set is
not empty and differs from the last set sent (R156). -/
def Obligations.ConditionNoticesAreSentAndHeldOff : Prop :=
  (∀ (address : Nat) (s : State), s.egressGrant = some .notice → s.report.conditions.address = some address →
      exec .conditionNoticeGrant s = .next
        { s with
          trunk :=
            { s.trunk with
              tx := some (Frame.octets
                { cls := 0x21
                  payload :=
                    beOctets 2 address ++ [0x01] ++ beOctets 1 s.mgmt.station ++ beOctets 4 s.mgmt.partTime
                      ++ beOctets 2 s.alertSet.toNat ++ beOctets 2 s.raisedFlags.toNat })
              lastClass := .own }
          report :=
            { s.report with
              conditions :=
                { s.report.conditions with
                  noticeWaiting := false, lastSent := s.alertSet, holdoff := some 10, gainInHoldoff := false } } })
    ∧ ∀ s : State, s.report.conditions.holdoff = some 0 →
      exec .holdoffEnd s = .next
        { s with
          report :=
            { s.report with
              conditions :=
                { s.report.conditions with
                  holdoff := none, gainInHoldoff := false
                  noticeWaiting := s.report.conditions.noticeWaiting ||
                    decide (s.report.conditions.gainInHoldoff = true ∧ s.report.conditions.address ≠ none
                      ∧ s.alertSet ≠ 0 ∧ s.alertSet ≠ s.report.conditions.lastSent) } } }

/-- A granted channel with a CREDIT-OUT notice pending sends the frozen notice, which is then no longer pending; it
is counted, and spends no credit and removes no entry (R107, R110). -/
def Obligations.CreditOutNoticeIsSent : Prop :=
  ∀ (n : Nat) (notice : CreditOut) (s : State), s.egressGrant = some (.channel n) →
    (s.report.channel n).creditOut = some notice →
    exec .creditOutNotice s = .next
      ({ s with
        trunk :=
          { s.trunk with
            tx := some (Frame.octets
              { cls := 0x21
                payload :=
                  beOctets 2 notice.destination ++ [0x02] ++ beOctets 1 s.mgmt.station ++ beOctets 1 notice.channel
                    ++ beOctets 4 notice.partTime ++ beOctets 1 notice.queueLength ++ beOctets 2 notice.lost })
            lastClass := .own, lastChannel := n }
        report := s.report.setChannel n { s.report.channel n with creditOut := none } }.count .creditOut 1)

/-- A granted channel without a pending CREDIT-OUT forms one REPORT frame (R104, R108, R109): the first entries of its
queue, at most eight of the eligible ones, each summary read from its tally, with the credit that remains; the entries
leave, one credit is spent, and the lowest owed zones take the room as new summaries.  With the last credit spent and an
eligible entry left, the channel is STARVED with its CREDIT-OUT frozen.  Other channels keep their state. -/
def Obligations.ReportFrameIsFormed : Prop :=
  ∀ (n : Nat) (s : State), s.egressGrant = some (.channel n) → (s.report.channel n).creditOut = none →
    let c := s.report.channel n
    let k := min 8 c.eligible
    let left := c.queue.drop k
    let paid := (Bits.members c.owed).take (64 - left.length)
    let queue := left ++ (paid.map fun zone => (⟨.summary zone, false⟩ : Entry))
    let starves := decide (c.credit = 1) && decide (0 < { c with queue := queue }.eligible)
    ∃ (owed : BitVec 64) (t : State), exec .reportFrame s = .next t ∧ 1 ≤ k ∧ 1 ≤ c.credit
      ∧ t.trunk =
          { s.trunk with
            tx := some (Frame.octets
              { cls := 0x20
                payload :=
                  beOctets 2 c.destination ++ beOctets 1 n ++ beOctets 4 s.mgmt.partTime ++ beOctets 1 (c.credit - 1)
                    ++ beOctets 1 k
                    ++ ((c.queue.take k).flatMap fun e => match e.item with
                        | .summary zone => summaryOctets zone (s.report.tally zone)
                        | .notice notice => noticeOctets notice) })
            lastClass := .own, lastChannel := n }
      ∧ t.report.channel n =
          { c with
            credit := c.credit - 1, queue := queue, owed := owed
            state := if starves then .starved else .opened
            creditOut :=
              if starves then
                some
                  { destination := c.destination, channel := n, partTime := s.mgmt.partTime
                    queueLength := queue.length, lost := c.lost }
              else none }
      ∧ (∀ z < 64, Bits.has z owed = (Bits.has z c.owed && !paid.contains z))
      ∧ (∀ m, m ≠ n → t.report.channel m = s.report.channel m)
      ∧ t.report.conditions =
          (if starves then s.report.conditions.raise .starved else s.report.conditions).count .reportFrame 1
      ∧ s.keepsAllBut [.trunk, .channels, .counters, .conditions] t

/-- A pace boundary marks every queued entry of every PACED channel that is OPEN or STARVED as due, and an OPEN one with
an entry and credit 0 is STARVED by it, which raises STARVED; PROMPT and CLOSED channels keep their state (R106, R109).
No channel is exhausted beforehand, as the channels' invariant says. -/
def Obligations.PaceBoundaryMarksEntriesDue : Prop :=
  ∀ s : State, s.report.boundary = true → (∀ n < 8, (s.report.channel n).exhausted = false) →
    let marks := fun (c : Channel) => c.mode == .paced && c.state != .closed
    let starves := fun (c : Channel) => marks c && c.state == .opened && c.credit == 0 && !c.queue.isEmpty
    ∃ t, exec .paceBoundary s = .next t ∧ t.report.boundary = false
      ∧ (∀ n < 8,
          let c := s.report.channel n
          t.report.channel n =
            if marks c then
              { c with
                queue := c.queue.map fun e => { item := e.item, due := true }
                state := if starves c then .starved else c.state
                creditOut :=
                  if starves c then
                    some
                      { destination := c.destination, channel := n, partTime := s.mgmt.partTime
                        queueLength := c.queue.length, lost := c.lost }
                  else c.creditOut }
            else c)
      ∧ (∀ f : Flag, Bits.has f.index t.report.conditions.raised =
          (Bits.has f.index s.report.conditions.raised
            || (f == .starved && [0, 1, 2, 3, 4, 5, 6, 7].any fun n => starves (s.report.channel n))))
      ∧ s.keepsAllBut [.boundary, .channels, .conditions] t

/-- A tick with no event of an earlier tick outstanding (R13, R42, R106, R119, R148, R156): Part Time rises unless it
stands at its maximum; each hold timer, the running auto countdown and the holdoff fall by 1; each Recent Arrivals entry
is tested anew for its dedup hold; a pace boundary falls when Part Time rises to a multiple of the pace period.  That the
events wait for their own commands, and that those still outstanding at a tick are taken before it counts, is the
model's choice (log entry 8); that entries are tested also while Part Time stands still is a reading of it (log entry 23). -/
def Obligations.TickCounts : Prop :=
  (∀ s : State, (∀ e ∈ s.table.held, e.2 ≠ 0) → s.sweep.expired = false → s.report.boundary = false →
      s.report.conditions.holdoff ≠ some 0 →
      let now := if s.mgmt.partTime < 4294967295 then s.mgmt.partTime + 1 else s.mgmt.partTime
      exec .partTimeTick s = .next
        { s with
          mgmt := { s.mgmt with partTime := now }
          table := { s.table with held := s.table.held.map fun e => (e.1, e.2 - 1) }
          filter :=
            { s.filter with
              entries := s.filter.entries.map fun e =>
                { e with due := decide (e.firstArrival + s.mgmt.params.dedupHold ≤ now) } }
          sweep :=
            { s.sweep with
              countdown := s.sweep.countdown.map fun n => n - 1
              expired := s.sweep.countdown == some 1 }
          report :=
            { s.report with
              boundary := decide (s.mgmt.partTime < 4294967295) && now % s.mgmt.params.pacePeriod == 0
              conditions :=
                { s.report.conditions with holdoff := s.report.conditions.holdoff.map fun n => n - 1 } } })
    ∧ ∀ s : State, (∀ e ∈ s.table.held, e.1 < 32) →
      exec .partTimeTick s = exec .partTimeTick s.overdueEvents
        ∧ (∀ e ∈ s.overdueEvents.table.held, e ∈ s.table.held)
        ∧ (∀ segment, Table.has segment s.overdueEvents.table.held = true →
            Table.get 0 segment s.overdueEvents.table.held ≠ 0)
        ∧ s.overdueEvents.sweep.expired = false ∧ s.overdueEvents.report.boundary = false
        ∧ s.overdueEvents.report.conditions.holdoff ≠ some 0

/-- The expiry of the auto countdown starts an AUTO sweep of bins 0 to 4095 UP when the engine is IDLE, the countdown
set again from the sweep interval or stopped when that is 0; otherwise it makes an automatic sweep due and leaves the
sweep under way (R119, R120).  That the first visit's read is requested in this step is the model's choice (log
entry 24). -/
def Obligations.AutoCountdownExpiryStartsOrOwesASweep : Prop :=
  ∀ s : State, s.sweep.expired = true →
    exec .autoCountdownExpiry s = .next
      { s with
        sweep :=
          if s.sweep.state = .idle then
            { state := .running, mode := .auto, first := 0, last := 4095, direction := .up, cursor := 0, visited := 0
              found := 0, autoDue := false, expired := false, stage := .read
              countdown := if s.mgmt.params.sweepInterval = 0 then none else some s.mgmt.params.sweepInterval }
          else { s.sweep with expired := false, autoDue := true } }

/-! ## The Arrival Filter and the Park List (chapter 3, section 1.7) -/

/-- The frame at the head of the field ingress FIFO that matches an entry by bin and sequence is a copy: the lane is
added, the higher margin kept, the copies counted up to 255, the copy counter gains 1, and the frame is dropped (R40). -/
def Obligations.CopyIsMergedAndDropped : Prop :=
  ∀ (r : Reading) (rest : List Reading) (before after : List Arrival) (e : Arrival) (s : State),
    s.field.ingress = r :: rest → s.filter.entries = before ++ e :: after →
    (s.filter.entries.map fun x => (x.bin, x.sequence)).Nodup → e.bin = r.bin → e.sequence = r.sequence →
    exec .copy s = .next
      ({ s with
        field := { s.field with ingress := rest }
        filter :=
          { s.filter with
            entries :=
              before
                ++ { e with
                      lanes := e.lanes ||| BitVec.twoPow 9 r.lane
                      margin := max e.margin (max (-20) (min r.margin 30)), copies := min (e.copies + 1) 255 }
                  :: after } }.count .copy 1)

/-- A new transmission at the head of the FIFO is handed over when the Reading Unit is IDLE, no exchange waits, no
Park List entry is released and the list has room: an entry joins the tail and the Reading Unit is in FETCH with it
(R41, R45).  Otherwise the idle Reading Unit takes the oldest released Park List entry, wherever it stands, with its
first arrival time; the unreleased entries before it keep their places (R16, R45).  While the head entry is due and its
retirement has not begun, it takes neither (R42, R56; for an entry of another reading, log entry 27). -/
def Obligations.ReadingUnitTakesItsReadings : Prop :=
  (∀ (r : Reading) (rest : List Reading) (s : State), s.field.ingress = r :: rest →
      (∀ e ∈ s.filter.entries, ¬(e.bin = r.bin ∧ e.sequence = r.sequence)) → s.reader = .idle →
      s.mgmt.stage ≠ .exchange → (∀ p ∈ s.table.park, p.released = false) → s.filter.entries.length < 256 →
      s.filter.retiring ≠ none ∨ (∀ e, s.filter.entries.head? = some e → e.due = false) →
      exec .handOver s = .next
        { s with
          field := { s.field with ingress := rest }
          filter :=
            { s.filter with
              entries :=
                s.filter.entries
                  ++ [{ bin := r.bin, sequence := r.sequence, firstArrival := s.mgmt.partTime
                        lanes := BitVec.twoPow 9 r.lane, margin := max (-20) (min r.margin 30), copies := 1
                        generation := none, due := false }] }
          reader :=
            .fetch
              { reading := { r with margin := max (-20) (min r.margin 30) }, arrival := s.mgmt.partTime
                source := .arrivals } })
    ∧ (∀ (before after : List Parked) (p : Parked) (s : State), s.table.park = before ++ p :: after →
      (∀ q ∈ before, q.released = false) → p.released = true → s.reader = .idle → s.mgmt.stage ≠ .exchange →
      s.filter.retiring ≠ none ∨ (∀ e, s.filter.entries.head? = some e → e.due = false) →
      exec .takeReleasedEntry s = .next
        { s with
          table := { s.table with park := before ++ after }
          reader := .fetch { reading := p.reading, arrival := p.arrival, source := .parkList } })
    ∧ ∀ (e : Arrival) (rest : List Arrival) (s : State), s.filter.entries = e :: rest → e.due = true →
      s.filter.retiring = none → exec .handOver s = .next s ∧ exec .takeReleasedEntry s = .next s

/-- The head entry retires by expiry when it is due, no retirement is under way and the Reading Unit does not hold its
reading, though it may hold another, and by eviction when a new transmission waits for room: not applied, it leaves at
once; applied, it requests its write-back; an eviction is counted (R41 to R43).  An entry that is not due, one whose
reading the Reading Unit still holds, and one behind a retirement under way do not retire by expiry (R42).  That a
reading is held until its run write is done is a reading of the manual (log entry 13). -/
def Obligations.HeadEntryRetires : Prop :=
  (∀ (e : Arrival) (rest : List Arrival) (s : State), s.filter.entries = e :: rest → s.filter.retiring = none →
      let retired := fun (why : Retirement) =>
        { s with
          filter :=
            match e.generation with
            | none => { entries := rest, retiring := none }
            | some _ => { entries := e :: rest, retiring := some why } }
      (e.due = true →
          (∀ t, s.reader.holding = some t →
            ¬(t.source = .arrivals ∧ t.reading.bin = e.bin ∧ t.reading.sequence = e.sequence)) →
          exec .entryDue s = .next (retired .expiry))
        ∧ ∀ (r : Reading) (more : List Reading), s.field.ingress = r :: more →
            (∀ x ∈ s.filter.entries, ¬(x.bin = r.bin ∧ x.sequence = r.sequence)) → s.reader = .idle →
            s.mgmt.stage ≠ .exchange → (∀ p ∈ s.table.park, p.released = false) → 256 ≤ s.filter.entries.length →
            exec .eviction s = .next ((retired .eviction).count .eviction 1))
    ∧ ∀ (e : Arrival) (rest : List Arrival) (s : State), s.filter.entries = e :: rest →
      (e.due = false ∨ s.filter.retiring ≠ none
        ∨ ∃ t, s.reader.holding = some t ∧ t.source = .arrivals ∧ t.reading.bin = e.bin ∧ t.reading.sequence = e.sequence) →
      exec .entryDue s = .next s

/-- The write-back of a retiring entry is made when the bin's last sequence and generation are the entry's and the
segment is not held, and skipped otherwise; it writes the reception record alone, and the entry leaves either way (R43).
The run write of an out-of-order drop sets the run when the generation is the one kept at the fetch and the bin is
ACTIVE, and otherwise writes nothing; the Reading Unit is IDLE (R51).  A repair mark has the record rewritten first; where
the repair finds it damaged, the bin is treated as damaged, the write-back is skipped and the run write writes nothing
(R7, R8, R43), a FAULT notice of the run write carrying no test marker (log entry 14). -/
def Obligations.LateWritesCheckTheirBin : Prop :=
  (∀ (e : Arrival) (rest : List Arrival) (why : Retirement) (wear : Wear) (s : State), s.storesCanonical →
      s.filter.entries = e :: rest → s.filter.retiring = some why → s.portGrant = some .arrivalFilter →
      let b := s.writtenBin e.bin wear
      let leaves := fun (t : State) => { t with filter := { entries := rest, retiring := none } }
      let left := leaves (s.writeThrough .arrivalFilter e.bin wear)
      let damaged := (s.bin e.bin).repair = true ∧ 2 ≤ worn wear (s.bin e.bin).badBits
      (¬damaged →
        exec (.writeBack wear) s = .next
          (if b.fill.lastSequence = some e.sequence ∧ e.generation = some b.generation ∧ s.isHeld e.bin = false then
            (left.setBin e.bin
              { b with
                fill := { b.fill with reception := some { lanes := e.lanes, margin := e.margin, copies := e.copies } } }).count
              .writeBack 1
          else left.count .writeBackSkipped 1))
      ∧ (damaged →
        exec (.writeBack wear) s = .next
          ((leaves (s.foundDamaged .arrivalFilter false e.bin wear)).count .writeBackSkipped 1)))
    ∧ ∀ (t : Taken) (generation run : Nat) (wear : Wear) (s : State), s.storesCanonical →
      s.reader = .runWrite t generation run → s.portGrant = some .readingUnit →
      let n := t.reading.bin
      let b := s.writtenBin n wear
      let u := { s.writeThrough .readingUnit n wear with reader := .idle }
      let damaged := (s.bin n).repair = true ∧ 2 ≤ worn wear (s.bin n).badBits
      (¬damaged →
        exec (.runWrite wear) s = .next
          (if b.generation = generation ∧ b.fill.service = .active then
            u.setBin n { b with fill := { b.fill with outOfOrderRun := run } }
          else u))
      ∧ (damaged →
        exec (.runWrite wear) s = .next { s.foundDamaged .readingUnit false n wear with reader := .idle })

/-! ## Accesses to the Bin Table and the requests on it (chapter 1) -/

/-- The table port's arbiter grants no one when no access is pending, and otherwise the requester with a pending access
that stands nearest after the one granted last in the cyclic order (R9, R10).  A fill write of a bin without a repair mark
does not test the record: it counts nothing and raises nothing (R6). -/
def Obligations.PortArbiterFollowsItsOrder : Prop :=
  (∀ s : State,
      (s.portGrant = none ↔ ∀ r, s.portPending r = false)
        ∧ ∀ r, s.portGrant = some r ↔
            s.portPending r = true ∧ ∀ q, s.portPending q = true → Requester.wait s.table.lastGrant r ≤ Requester.wait s.table.lastGrant q)
    ∧ ∀ (test : Bool) (n : Nat) (wear : Wear) (s : State), (s.bin n).repair = false →
      (s.access .write test n wear).bin n = { s.bin n with badBits := worn wear (s.bin n).badBits }
        ∧ s.keepsAllBut [.bins] (s.access .write test n wear)
        ∧ ∀ m, m ≠ n → (s.access .write test n wear).bin m = s.bin m

/-- A record read of any unit, with or without a repair mark (R6 to R8): a good record changes nothing; a single error
is counted, raises ECC-FIX and sets the repair mark; an uncorrectable record is counted, raises ECC-DAMAGE, clears the
repair mark and puts an ACTIVE bin in FAULT, with its notice; a repair rewrites a correctable record and counts nothing.
The record fetch drops its reading as a fault drop then, whatever the bin's service state (R47, check 1).  That a BIN
READ which itself finds a single error leaves the repair mark set is a reading of R6 against R24 (log entry 12). -/
def Obligations.RecordReadsTestTheRecord : Prop :=
  ∀ (c : Instr) (n : Nat) (wear : Wear) (s : State), s.recordRead c = some (n, wear) →
    let b := s.bin n
    ∃ t, exec c s = .next t
      ∧ (t.bin n).record = b.record ∧ (t.bin n).generation = b.generation
      ∧ (∀ m, m ≠ n → t.bin m = s.bin m)
      ∧ (worn wear b.badBits = 0 ∨ (worn wear b.badBits = 1 ∧ b.repair = true) →
          t.bin n = { b with repair := false, badBits := 0 }
            ∧ t.counter .recordCorrection = s.counter .recordCorrection
            ∧ t.counter .recordDamage = s.counter .recordDamage)
      ∧ (worn wear b.badBits = 1 → b.repair = false →
          t.bin n = { b with repair := true, badBits := 1 }
            ∧ t.counter .recordCorrection = (s.counter .recordCorrection).rise 1
            ∧ t.counter .recordDamage = s.counter .recordDamage
            ∧ Bits.has Flag.eccFix.index t.report.conditions.raised = true)
      ∧ (worn wear b.badBits = 2 →
          t.bin n =
              { b with
                repair := false, badBits := 2
                fill :=
                  if b.fill.service = .active then
                    { b.fill with
                      service := .fault, level := .unheard, stale := false, fallen := false, filtered := none
                      lastRaw := none, countedLitres := 0 }
                  else b.fill }
            ∧ t.counter .recordDamage = (s.counter .recordDamage).rise 1
            ∧ t.counter .recordCorrection = s.counter .recordCorrection
            ∧ Bits.has Flag.eccDamage.index t.report.conditions.raised = true
            ∧ (b.fill.service = .active → b.fill.countedZone ≠ none →
                t.counter .notice = (s.counter .notice).rise 1)
            ∧ ∀ reading, c = .recordFetch wear → s.reader = .fetch reading →
                t.reader = .idle ∧ t.counter .faultDrop = (s.counter .faultDrop).rise 1
                  ∧ s.keepsAllBut [.reader, .port, .bins, .tallies, .channels, .conditions, .counters] t)

/-- BIN LOAD of an unlocked unit, its length right, and the converted read (R17 to R19): a bin above 4095 is BAD-VALUE;
a protected segment converts the request to a read before any field is judged; then every field must be in range and
the curve of a bin in service present in the active bank; then the load is requested.  The converted read of a readable
record, good or corrected, answers DONE-PROTECTED with the record and the generation, and of a damaged one DAMAGED with
the generation, the bin treated as damaged. -/
def Obligations.BinLoadIsCheckedInOrder : Prop :=
  (∀ (r : Request) (s : State), s.offers .binLoad r → s.mgmt.lock = none →
    let n := fieldAt 0 2 r.args
    let record := argRecord r.args
    let inRange :=
      record.zone ≤ 63 ∧ record.curve ≤ 31 ∧ 200 ≤ record.emptyDepth ∧ record.emptyDepth ≤ 3000
        ∧ 10 ≤ record.capacity ∧ record.capacity ≤ 5000 ∧ 1 ≤ record.warn ∧ record.warn ≤ 999
        ∧ record.warn + 1 ≤ record.collect ∧ record.collect ≤ 1000 ∧ record.hysteresis ≤ 200
        ∧ record.hysteresis ≤ record.warn - 1 ∧ 1 ≤ record.weight ∧ record.weight ≤ 16
        ∧ ∀ limit, record.silenceLimit = some limit → 600 ≤ limit ∧ limit ≤ 604800
    (4095 < n → exec .binLoad s = .next (s.answered .binLoad r .badValue []))
    ∧ (n ≤ 4095 → Bits.has (n / 128) s.table.protectedSegments = true →
        exec .binLoad s = .next { s with mgmt := { s.mgmt with stage := .converted n } })
    ∧ (n ≤ 4095 → Bits.has (n / 128) s.table.protectedSegments = false →
        ¬inRange ∨ (record.inService = true ∧ (s.curves.slot s.curves.active record.curve).points = []) →
          exec .binLoad s = .next (s.answered .binLoad r .badValue []))
    ∧ (n ≤ 4095 → Bits.has (n / 128) s.table.protectedSegments = false → inRange →
        (record.inService = true → (s.curves.slot s.curves.active record.curve).points ≠ []) →
          exec .binLoad s = .next { s with mgmt := { s.mgmt with stage := .load n record (argPoison r.args) } }))
  ∧ ∀ (n : Nat) (wear : Wear) (r : Request) (s : State), s.storesCanonical → s.mgmt.stage = .converted n →
      s.mgmt.queue.head? = some r → r.kind = RequestKind.binLoad.code → s.portGrant = some .managementUnit →
      (worn wear (s.bin n).badBits ≤ 1 →
        exec (.convertedRead wear) s = .next
          ((s.readThrough .managementUnit n wear).answered .binLoad r .doneProtected
            (recordOctets n (s.bin n).record ++ beOctets 1 (s.bin n).generation)))
      ∧ (2 ≤ worn wear (s.bin n).badBits →
        exec (.convertedRead wear) s = .next
          ((s.foundDamaged .managementUnit false n wear).answered .binLoad r .damaged
            (beOctets 1 (s.bin n).generation)))

/-- The load grant over a readable old record, good or corrected (R20 to R23, R80, R81): the record is replaced whole, the generation rises
by 1 modulo 256, the repair mark is clear, and the check is good, or uncorrectable with the poison option.  A bin out of
service takes the reset form last heard now; an ACTIVE bin of the same tag keeps its Fill State, its zone, litres and
level following the new record; any other starts afresh.  The contribution change and a FULL notice follow.  Over a
damaged old record the Fill State is never kept, and the damage is counted without a FAULT entry, once also when the
repair read finds it (log entry 17). -/
def Obligations.LoadGrantWritesTheRecord : Prop :=
  ∀ (n : Nat) (record : BinRecord) (poison : Bool) (wear : Wear) (r : Request) (s : State), s.storesCanonical →
    s.mgmt.stage = .load n record poison → s.mgmt.queue.head? = some r → r.kind = RequestKind.binLoad.code →
    s.portGrant = some .managementUnit →
    let old := s.bin n
    let out := { FillState.reset with lastHeard := s.mgmt.partTime }
    let fresh :=
      { FillState.reset with service := .active, lastHeard := s.mgmt.partTime, countedZone := some record.zone }
    let keeps := old.fill.service = .active ∧ record.tag = old.record.tag
    let kept :=
      { old.fill with
        countedZone := some record.zone
        countedLitres :=
          match old.fill.filtered with
          | none => 0
          | some filtered => filtered * record.capacity / 1000
        level :=
          match old.fill.filtered with
          | none => old.fill.level
          | some filtered => judgeLevel filtered record.warn record.collect record.hysteresis old.fill.level }
    let loaded := fun (fill : FillState) =>
      ({ record := record, generation := (old.generation + 1) % 256, repair := false
         badBits := if poison = true then 2 else 0, fill := fill } : Bin)
    let written := fun (fill : FillState) =>
      ((s.readThrough .managementUnit n wear).setBin n (loaded fill)).postChange old.fill fill
    let answer := fun (t : State) =>
      t.answered .binLoad r .done (recordOctets n record ++ beOctets 1 ((old.generation + 1) % 256))
    (worn wear old.badBits ≤ 1 →
      (record.inService = false → exec (.loadGrant wear) s = .next (answer (written out)))
      ∧ (record.inService = true → ¬keeps → exec (.loadGrant wear) s = .next (answer (written fresh)))
      ∧ (record.inService = true → keeps →
          exec (.loadGrant wear) s = .next
            (answer
              (if kept.level = .full ∧ old.fill.level ≠ .full then
                (written kept).notify record.selection n (some record.kind) false kept .full
              else written kept))))
    ∧ (worn wear old.badBits = 2 →
        ∃ t, exec (.loadGrant wear) s = .next t
          ∧ t.bin n = loaded (if record.inService = true then fresh else out)
          ∧ t.counter .recordDamage = (s.counter .recordDamage).rise 1
          ∧ t.counter .notice = s.counter .notice
          ∧ t.mgmt.reply =
              some
                { destination := r.source, tag := r.tag, kind := r.kind, result := .done
                  content := recordOctets n record ++ beOctets 1 ((old.generation + 1) % 256) })

/-- BIN READ (R24): a bin above 4095 is BAD-VALUE; any other waits for its record read.  The reply carries the record
while it is readable, good or corrected, and the generation, the Fill State and the segment state always, of a damaged
record those after its FAULT.  The octets of an absent reception are free values, three of them used (log entry 5: the
model's own field); bits without a meaning are sent as 0 (log entry 25: the model's choice). -/
def Obligations.BinReadAnswersWithTheBin : Prop :=
  (∀ (r : Request) (s : State), s.offers .binRead r →
    (4095 < fieldAt 0 2 r.args → exec .binRead s = .next (s.answered .binRead r .badValue []))
    ∧ (fieldAt 0 2 r.args ≤ 4095 →
        exec .binRead s = .next { s with mgmt := { s.mgmt with stage := .binRead (fieldAt 0 2 r.args) } }))
  ∧ ∀ (n : Nat) (wear : Wear) (r : Request) (s : State), s.storesCanonical → s.mgmt.stage = .binRead n →
      s.mgmt.queue.head? = some r → r.kind = RequestKind.binRead.code → s.portGrant = some .managementUnit →
      let segment :=
        segmentOctets (Bits.has (n / 128) s.table.protectedSegments)
          (if Table.has (n / 128) s.table.held = true then some (Table.get 0 (n / 128) s.table.held) else none)
      let used := if (s.bin n).fill.reception = none then s.freeCount + 3 else s.freeCount
      (worn wear (s.bin n).badBits ≤ 1 →
        exec (.binReadAccess wear) s = .next
          (({ s.readThrough .managementUnit n wear with freeCount := used } : State).answered .binRead r .done
            (recordOctets n (s.bin n).record ++ beOctets 1 (s.bin n).generation
              ++ fillOctets s.freeCount (s.bin n).fill ++ segment)))
      ∧ (2 ≤ worn wear (s.bin n).badBits →
        let found := s.foundDamaged .managementUnit false n wear
        exec (.binReadAccess wear) s = .next
          (({ found with freeCount := used } : State).answered .binRead r .damaged
            (beOctets 1 (s.bin n).generation ++ fillOctets s.freeCount (found.bin n).fill ++ segment)))

/-- PROTECT of an unlocked unit replaces the protected set whole, and HOLD adds segments to the held set, each named
segment's timer set to the hold limit and the others left; each reply carries the set as it then stands (R11, R12).  The
expiry of a hold timer that a tick has brought to 0, and a RELEASE of a held segment, end the hold: the segment leaves the
held set, and its Park List entries are marked released (R13, R14).  RELEASE of a segment that is not held is answered
CONFLICT, and of a segment above 31 BAD-VALUE. -/
def Obligations.SegmentsAreProtectedHeldAndReleased : Prop :=
  ((∀ (r : Request) (s : State), s.offers .protect r → s.mgmt.lock = none →
      exec .protect s = .next
        (({ s with table := { s.table with protectedSegments := BitVec.ofNat 32 (fieldAt 0 4 r.args) } } : State).answered
          .protect r .done (beOctets 4 (fieldAt 0 4 r.args))))
    ∧ ∀ (r : Request) (s : State), s.offers .hold r → Table.rising none s.table.held = true →
        ∃ (held : Table Nat) (segments : BitVec 32),
          exec .hold s = .next
            (({ s with table := { s.table with held := held } } : State).answered .hold r .done
              (beOctets 4 segments.toNat ++ held.flatMap fun e => beOctets 2 e.2))
          ∧ Table.rising none held = true
          ∧ (∀ segment < 32, Bits.has segment segments = Table.has segment held)
          ∧ ∀ segment,
              Table.has segment held
                  = (Bits.has segment (BitVec.ofNat 32 (fieldAt 0 4 r.args)) || Table.has segment s.table.held)
                ∧ Table.get 0 segment held
                  = if Bits.has segment (BitVec.ofNat 32 (fieldAt 0 4 r.args)) = true then s.mgmt.params.holdLimit
                    else Table.get 0 segment s.table.held)
    ∧ (∀ (segment : Nat) (s : State), Table.has segment s.table.held = true →
      let freed :=
        { s with
          table :=
            { s.table with
              held := s.table.held.filter fun e => e.1 != segment
              park := s.table.park.map fun p =>
                if p.reading.bin / 128 = segment then { p with released := true } else p } }
      (Table.get 0 segment s.table.held = 0 → exec (.holdTimerExpiry segment) s = .next freed)
        ∧ (Table.get 0 segment s.table.held ≠ 0 → exec (.holdTimerExpiry segment) s = .next s)
        ∧ ∀ r, s.offers .release r → segment ≤ 31 → (octetAt 0 r.args).toNat = segment →
            exec .release s = .next (freed.answered .release r .done []))
    ∧ ∀ (r : Request) (s : State), s.offers .release r →
      (31 < (octetAt 0 r.args).toNat → exec .release s = .next (s.answered .release r .badValue []))
        ∧ ((octetAt 0 r.args).toNat ≤ 31 → Table.has (octetAt 0 r.args).toNat s.table.held = false →
            exec .release s = .next (s.answered .release r .conflict []))

/-- The record of a BIN READ or DONE-PROTECTED reply, read back as the arguments of BIN LOAD, gives the same bin and
record for every record in range; and the points of a CURVE READ reply, read back as those of CURVE LOAD, give the same
points (section 12.3, section 12.7). -/
def Obligations.RecordAndPointsReadBack : Prop :=
  (∀ (n : Nat) (record : BinRecord), n ≤ 4095 → record.inRange = true → record.tag ≤ 65535 →
    argBin (recordOctets n record) = n ∧ argRecord (recordOctets n record) = record
      ∧ argPoison (recordOctets n record) = false
      ∧ (recordOctets n record).length = RequestKind.binLoad.argLength (recordOctets n record))
  ∧ ∀ points : List Point, (∀ p ∈ points, p.height ≤ 3000 ∧ p.fill ≤ 1000) →
      argPoints (pointOctets points) = points ∧ (pointOctets points).length = 4 * points.length

/-! ## Curves (chapter 2) -/

/-- CURVE SWAP (R34 to R37): the slots of the load bank are tested in order, each for damage and then for its shape, and
the first that fails locks the unit with its number; when none fails the bin scan starts at bin 0.  The scan locks at the
first ACTIVE bin whose curve is absent from the load bank, passes a damaged record over, and after bin 4095 waits for the
exchange, which makes the load bank active while the Reading Unit is IDLE.  That it waits for a run write too is a
reading of the manual (log entry 13). -/
def Obligations.CurveSwapTestsScansAndExchanges : Prop :=
  (∀ (wear : List Wear) (r : Request) (s : State), s.offers .curveSwap r → s.mgmt.lock = none →
    let slot := fun i => s.curves.slot s.curves.active.other i
    let damaged := fun i => (slot i).damaged = true ∨ 2 ≤ worn (wear.getD i .steady) (slot i).badBits
    let fails := fun i => (slot i).points ≠ [] ∧ (damaged i ∨ shapeHolds (slot i).points = false)
    ((∀ i < 32, ¬fails i) →
      ∃ t, exec (.curveSwap wear) s = .next t ∧ t.mgmt = { s.mgmt with stage := .scan 0 }
        ∧ (∀ bank i, (t.curves.slot bank i).points = (s.curves.slot bank i).points)
        ∧ t.curves.active = s.curves.active ∧ s.keepsAllBut [.curves, .conditions, .counters, .mgmt] t)
    ∧ ∀ i < 32, fails i → (∀ j < i, ¬fails j) →
        ∃ (reason : LockReason) (u : State), exec (.curveSwap wear) s = .next (u.lockedBy .curveSwap r reason i)
          ∧ (damaged i → reason = .curveDamaged) ∧ (¬damaged i → reason = .curveInvalid)
          ∧ (∀ bank j, (u.curves.slot bank j).points = (s.curves.slot bank j).points)
          ∧ u.curves.active = s.curves.active ∧ s.keepsAllBut [.curves, .conditions, .counters] u)
  ∧ ∀ (r : Request) (s : State), s.storesCanonical → s.mgmt.queue.head? = some r →
      r.kind = RequestKind.curveSwap.code →
      let other := if s.curves.active = .a then Bank.b else Bank.a
      (∀ n wear, s.mgmt.stage = .scan n → s.portGrant = some .managementUnit →
        let next := if n = 4095 then Stage.exchange else .scan (n + 1)
        let read := s.readThrough .managementUnit n wear
        (worn wear (s.bin n).badBits ≤ 1 →
          exec (.binScan wear) s = .next
            (if (s.bin n).fill.service = .active ∧ (s.curves.slot other (s.bin n).record.curve).points = [] then
              read.lockedBy .curveSwap r .curveMissing n
            else { read with mgmt := { s.mgmt with stage := next } }))
        ∧ (2 ≤ worn wear (s.bin n).badBits →
            exec (.binScan wear) s = .next
              { s.foundDamaged .managementUnit false n wear with mgmt := { s.mgmt with stage := next } }))
      ∧ (s.mgmt.stage = .exchange → s.reader = .idle →
          exec .bankExchange s = .next
            (({ s with curves := { s.curves with active := other } } : State).answered .curveSwap r .done [other.code]))
      ∧ (s.mgmt.stage = .exchange → s.reader ≠ .idle → exec .bankExchange s = .next s)

/-- CURVE LOAD of an unlocked unit (R32): with a slot above 31, a point count of 1 or above 9, a height above 3000 or a
fill above 1000 it is BAD-VALUE; otherwise it writes the slot of the load bank, with a good check and no damage mark,
and its shape is not tested.  CURVE READ (R33) answers with the slot of the named bank, DAMAGED for a damaged curve, and
names the active bank in every reply.  Its slot access (R29): a single error is corrected, rewritten and counted; a
double error sets the damage mark and is counted; from then on the mark decides and nothing more is counted. -/
def Obligations.CurvesAreLoadedReadAndTested : Prop :=
  ((∀ (r : Request) (s : State), s.offers .curveLoad r → s.mgmt.lock = none →
      let slot := (octetAt 0 r.args).toNat
      let count := (octetAt 1 r.args).toNat
      let points := argPoints (r.args.drop 2)
      let other := if s.curves.active = .a then Bank.b else Bank.a
      exec .curveLoad s = .next
        (if slot ≤ 31 ∧ count ≠ 1 ∧ count ≤ 9 ∧ ∀ p ∈ points, p.height ≤ 3000 ∧ p.fill ≤ 1000 then
          ({ s with
            curves := s.curves.setSlot other slot { points := points, badBits := 0, damaged := false } } : State).answered
            .curveLoad r .done [other.code]
        else s.answered .curveLoad r .badValue []))
    ∧ ∀ (wear : Wear) (r : Request) (s : State), s.offers .curveRead r →
        let slot := (octetAt 1 r.args).toNat
        let active := s.curves.active.code
        let read := fun (bank : Bank) =>
          let v := s.curves.slot bank slot
          let damaged := v.points ≠ [] ∧ (v.damaged = true ∨ 2 ≤ worn wear v.badBits)
          (damaged → exec (.curveRead wear) s = .next
            ((s.slotAccess bank slot wear).answered .curveRead r .damaged [active]))
          ∧ (¬damaged → exec (.curveRead wear) s = .next
            ((s.slotAccess bank slot wear).answered .curveRead r .done
              ([active] ++ beOctets 1 v.points.length ++ pointOctets v.points)))
        (31 < slot ∨ 1 < (octetAt 0 r.args).toNat →
          exec (.curveRead wear) s = .next (s.answered .curveRead r .badValue [active]))
        ∧ (slot ≤ 31 → octetAt 0 r.args = 0 → read .a) ∧ (slot ≤ 31 → octetAt 0 r.args = 1 → read .b))
    ∧ ∀ (bank : Bank) (n : Nat) (wear : Wear) (s : State),
      let v := s.curves.slot bank n
      let t := s.slotAccess bank n wear
      let w := t.curves.slot bank n
      w.points = v.points
        ∧ (v.points = [] ∨ v.damaged = true → w = v ∧ ∀ c, t.counter c = s.counter c)
        ∧ (v.points ≠ [] → v.damaged = false → worn wear v.badBits = 0 →
            w = { v with badBits := 0 } ∧ ∀ c, t.counter c = s.counter c)
        ∧ (v.points ≠ [] → v.damaged = false → worn wear v.badBits = 1 →
            w = { v with badBits := 0 } ∧ Bits.has Flag.eccFix.index t.report.conditions.raised = true
              ∧ t.counter .curveCorrection = (s.counter .curveCorrection).rise 1
              ∧ t.counter .curveDamage = s.counter .curveDamage)
        ∧ (v.points ≠ [] → v.damaged = false → worn wear v.badBits = 2 →
            w.damaged = true ∧ Bits.has Flag.eccDamage.index t.report.conditions.raised = true
              ∧ t.counter .curveDamage = (s.counter .curveDamage).rise 1
              ∧ t.counter .curveCorrection = s.counter .curveCorrection)
        ∧ s.keepsAllBut [.curves, .conditions, .counters] t
        ∧ ∀ other m, ¬(other = bank ∧ m = n) → t.curves.slot other m = s.curves.slot other m

/-! ## The Reading Unit (chapters 3 to 5) -/

/-- The record fetch of a bin whose record is readable, good or corrected: the checks for a bin OFF, a bin in FAULT, the tag, the test lane
and the held segment, in this order, and then the sequence check on the Fill State as fetched (R15, R46 to R51).  A
reading from the Arrival Filter is parked with the present Part Time, one from the Park List with its first arrival time
again (R15, R16). -/
def Obligations.RecordFetchMakesItsChecksInOrder : Prop :=
  ∀ (t : Taken) (wear : Wear) (s : State), s.storesCanonical → s.reader = .fetch t →
    s.portGrant = some .readingUnit → worn wear (s.bin t.reading.bin).badBits ≤ 1 →
    let b := s.bin t.reading.bin
    let u := s.readThrough .readingUnit t.reading.bin wear
    let idle := { u with reader := .idle }
    let accepted := fun (gapCount gapGain : Nat) (restart : Bool) =>
      { u with
        reader :=
          .compute
            { taken := t, record := b.record, fill := b.fill, generation := b.generation, gapCount := gapCount
              gapGain := gapGain, sensorRestart := restart } }
    exec (.recordFetch wear) s = .next
      (if b.fill.service = .off then idle.count .unknownBin 1
      else if b.fill.service = .fault then idle.count .faultDrop 1
      else if b.record.tag ≠ t.reading.tag then idle.count .tagMismatch 1
      else if t.reading.lane = 8 ∧ b.record.testBin = false then idle.count .testRefused 1
      else if s.isHeld t.reading.bin = true then
        if s.table.park.length < 32 then
          State.count .parkedReading 1
            { idle with
              table :=
                { idle.table with
                  park :=
                    s.table.park
                      ++ [{ reading := t.reading
                            arrival := if t.source = .arrivals then s.mgmt.partTime else t.arrival
                            released := false }] } }
        else (idle.raise .parkFull).count .parkOverflow 1
      else
        match b.fill.lastSequence with
        | none => accepted b.fill.gapCount 0 false
        | some last =>
          let d := (t.reading.sequence + (256 - last % 256)) % 256
          if b.fill.stale = true then accepted b.fill.gapCount 0 false
          else if d = 0 then idle.count .repeated 1
          else if d ≤ 127 then accepted (min (b.fill.gapCount + (d - 1)) 255) (d - 1) false
          else if b.fill.outOfOrderRun < 2 then
            State.count .outOfOrder 1 { u with reader := .runWrite t b.generation (b.fill.outOfOrderRun + 1) }
          else accepted b.fill.gapCount 0 true)

/-- Echo choice (R62), and the temperature used, the distance and the height (R63 to R65), with their ranges. -/
def Obligations.EchoBecomesAHeight : Prop :=
  (∀ echoes : List Nat,
      let present := echoes.filter fun e => decide (1 ≤ e ∧ e ≤ 30000)
      (∀ kind, chooseEcho kind echoes = none ↔ present = [])
        ∧ chooseEcho .litter echoes = present.head?
        ∧ (∀ a, present = [a] → chooseEcho .glass echoes = some a)
        ∧ (∀ a b, present = [a, b] → chooseEcho .glass echoes = some (max a b))
        ∧ (∀ a b c, present = [a, b, c] → ∃ m, chooseEcho .glass echoes = some m
            ∧ ∃ x y, [a, b, c].Perm [x, m, y] ∧ x ≤ m ∧ m ≤ y)
        ∧ ∀ kind e, echoes.length ≤ 3 → chooseEcho kind echoes = some e → e ∈ echoes ∧ 1 ≤ e ∧ e ≤ 30000)
    ∧ (∀ field : Int, -128 ≤ field → field ≤ 127 →
        temperatureUsed field =
            (if field = -128 then 20 else if field < -40 then -40 else if field > 85 then 85 else field)
          ∧ -40 ≤ temperatureUsed field ∧ temperatureUsed field ≤ 85)
      ∧ (∀ (echo : Nat) (temperature : Int), 1 ≤ echo → echo ≤ 30000 → -40 ≤ temperature → temperature ≤ 85 →
          (distanceOf echo temperature : Int) = min ((echo : Int) * (331300 + 606 * temperature) / 2000000) 4095)
      ∧ ∀ emptyDepth distance : Nat,
          heightOf emptyDepth distance = emptyDepth - max distance 50
            ∧ (emptyDepth ≤ 3000 → heightOf emptyDepth distance ≤ 2950)

/-- The raw fill of a height by a curve of the right shape (R66): the last point's fill at or above its height, and
otherwise the truncated interpolation between the two points around the height, which lies between their fills. -/
def Obligations.CurveIsInterpolated : Prop :=
  ∀ (points : List Point) (h : Nat), 2 ≤ points.length → shapeHolds points = true →
    (∀ last, points.getLast? = some last → last.height ≤ h → rawFill h points = last.fill)
      ∧ ∀ (before after : List Point) (p q : Point), points = before ++ p :: q :: after → p.height ≤ h → h < q.height →
          rawFill h points = p.fill + (q.fill - p.fill) * (h - p.height) / (q.height - p.height)
            ∧ p.fill ≤ rawFill h points ∧ rawFill h points ≤ q.fill

/-- The emptied test and the filter (R67, R69): a first reading is taken whole; a raw fill at least the emptied drop
below the filtered value is an emptying and taken whole; any other moves the filtered value by delta × w / 16
truncated toward zero, or by 1 toward the raw fill where that is 0, and so to a value between the two. -/
def Obligations.FilterMovesTowardTheRawFill : Prop :=
  ∀ raw drop weight : Nat, 1 ≤ drop → 1 ≤ weight → weight ≤ 16 →
    filterReading none raw drop weight = (raw, false)
      ∧ ∀ old, old ≤ 1000 → raw ≤ 1000 →
          let new := (filterReading (some old) raw drop weight).1
          let emptied := (filterReading (some old) raw drop weight).2
          (emptied = true ↔ (raw : Int) ≤ (old : Int) - drop)
            ∧ (emptied = true → new = raw)
            ∧ (emptied = false → (new : Int) = old
                + (if (((raw : Int) - old) * weight).tdiv 16 = 0 then ((raw : Int) - old).sign
                  else (((raw : Int) - old) * weight).tdiv 16))
            ∧ min old raw ≤ new ∧ new ≤ max old raw ∧ (new = old ↔ raw = old) ∧ (weight = 16 → new = raw)

/-- Counted litres (R70) and the Test Generator's echo time (R73): at 20 °C it gives back every intended distance from
100 to 4000 mm, lies within the echo window, and an echo one microsecond shorter falls short. -/
def Obligations.GeneratorEchoGivesItsDistance : Prop :=
  (∀ filtered capacity : Nat, litresOf filtered capacity = filtered * capacity / 1000
      ∧ (filtered ≤ 1000 → capacity ≤ 5000 → litresOf filtered capacity ≤ 5000))
    ∧ ∀ d : Nat, 100 ≤ d → d ≤ 4000 →
        distanceOf (echoFor d) 20 = d ∧ 1 ≤ echoFor d ∧ echoFor d ≤ 30000 ∧ distanceOf (echoFor d - 1) 20 < d

/-- The level judgement (R74): its table line by line, and what it leaves true of the level. -/
def Obligations.LevelIsJudgedWithHysteresis : Prop :=
  ∀ (f W C H : Nat) (basis : Level), W + 1 ≤ C → H < W →
    let level := judgeLevel f W C H basis
    (level = .full ↔ C ≤ f ∨ (basis = .full ∧ C ≤ f + H))
      ∧ (level = .near ↔ level ≠ .full ∧ (W ≤ f ∨ ((basis = .near ∨ basis = .full) ∧ W ≤ f + H)))
      ∧ (level = .low ↔ level ≠ .full ∧ level ≠ .near) ∧ level ≠ .unheard
      ∧ judgeLevel f W C H .unheard = judgeLevel f W C H .low
      ∧ (level = .full → C - H ≤ f) ∧ (level = .near → W - H ≤ f) ∧ (level = .low → f < C)

/-- The fill computation (R31, R52, R57 to R70), after the access of R29 to the curve slot: held for TILT, for LID, as BLIND and for a
damaged CURVE, in this order, with the counter of the cause; otherwise COMPUTED stage by stage.  The reading goes to
APPLY, and only an absent slot stops the machine (log entry 10). -/
def Obligations.FillComputationGivesItsResult : Prop :=
  ∀ (a : Accepted) (wear : Wear) (s : State), s.reader = .compute a →
    let r := a.taken.reading
    let slot := s.curves.slot s.curves.active a.record.curve
    let read := s.slotAccess s.curves.active a.record.curve wear
    let held := fun (t : State) (cause : HoldCause) (counter : Ctr) =>
      { t with reader := .apply a (.held cause) }.count counter 1
    exec (.fillComputation wear) s =
      if r.tilt = true then .next (held s .tilt .tiltHold)
      else if a.record.kind = .glass ∧ r.lidOpen = true then .next (held s .lid .lidHold)
      else
        match chooseEcho a.record.kind r.echoes with
        | none => .next (held s .blind .blindHold)
        | some echo =>
          if slot.points = [] then .fault .curveAbsent
          else if slot.damaged = true ∨ 2 ≤ worn wear slot.badBits then .next (held read .curve .damagedCurveHold)
          else
            let raw := rawFill (heightOf a.record.emptyDepth (distanceOf echo (temperatureUsed r.temperature))) slot.points
            let filter := filterReading a.fill.filtered raw s.mgmt.params.emptiedDrop a.record.weight
            .next
              { read with
                reader :=
                  .apply a (.computed raw filter.1 filter.2 (filter.1 * a.record.capacity / 1000)) }

/-- An application (R53 to R56, R59, R61, R71, R82 to R85), after the repair that its grant may make: overtaken when the load generation
has changed, a fault drop when the bin is not ACTIVE, and made otherwise.  Every applied reading writes the sequence, the
gap count, last heard, the reception record, the tilt as fallen, and clears stale and the run; a COMPUTED one writes the
fill, the level from the record kept at the fetch, and the litres besides.  Its entry is marked applied with the
generation, it is counted, its change handed on, and then its notices in order: BACK, FALLEN or UPRIGHT, EMPTIED, FULL.
Where the repair finds the record damaged, the bin is treated as damaged and the reading is overtaken or a fault drop
(R7, R55). -/
def Obligations.ApplicationWritesTheReading : Prop :=
  ∀ (a : Accepted) (result : FillResult) (wear : Wear) (s : State), s.storesCanonical → s.reader = .apply a result →
    s.portGrant = some .readingUnit →
    let r := a.taken.reading
    let b := s.writtenBin r.bin wear
    let u := s.writeThrough .readingUnit r.bin wear
    let damaged := (s.bin r.bin).repair = true ∧ 2 ≤ worn wear (s.bin r.bin).badBits
    let found := s.foundDamaged .readingUnit (decide (r.lane = 8)) r.bin wear
    let ofReading := fun (e : Arrival) => e.bin = r.bin ∧ e.sequence = r.sequence
    let reception : Reception :=
      if a.taken.source = .arrivals then
        match s.filter.entries.find? fun e => decide (ofReading e) with
        | some e => { lanes := e.lanes, margin := e.margin, copies := e.copies }
        | none => { lanes := BitVec.twoPow 9 r.lane, margin := r.margin, copies := 1 }
      else { lanes := BitVec.twoPow 9 r.lane, margin := r.margin, copies := 1 }
    let heard :=
      { b.fill with
        lastSequence := some r.sequence, outOfOrderRun := 0, gapCount := a.gapCount, lastHeard := a.taken.arrival
        reception := some reception, fallen := r.tilt, stale := false }
    let after : FillState :=
      match result with
      | .held _ => heard
      | .computed raw filtered emptying litres =>
        { heard with
          filtered := some filtered, lastRaw := some raw, countedLitres := litres
          lastEmptied := if emptying = true then some s.mgmt.partTime else b.fill.lastEmptied
          level := judgeLevel filtered a.record.warn a.record.collect a.record.hysteresis b.fill.level }
    let emptying := match result with | .held _ => false | .computed _ _ emptying _ => emptying
    let filled := match result with | .held _ => false | .computed _ _ _ _ => true
    let notices : List NoticeKind :=
      (if b.fill.stale = true then [.back] else [])
        ++ (if b.fill.fallen = false ∧ r.tilt = true then [.fallen] else [])
        ++ (if b.fill.fallen = true ∧ r.tilt = false then [.upright] else [])
        ++ (if emptying = true then [.emptied] else [])
        ++ (if filled = true ∧ after.level = .full ∧ b.fill.level ≠ .full then [.full] else [])
    let marked :=
      s.filter.entries.map fun e =>
        if a.taken.source = .arrivals ∧ ofReading e then { e with generation := some b.generation } else e
    let written :=
      { u.setBin r.bin { b with fill := after } with
        filter := { s.filter with entries := marked }
        test := if r.lane = 8 then { s.test with applied := min (s.test.applied + 1) 4294967295 } else s.test }
    let judged := (written.count .appliedReading 1).count .gap a.gapGain
    let restarted := if a.sensorRestart = true then judged.count .sensorRestart 1 else judged
    let changed := (if emptying = true then restarted.count .emptying 1 else restarted).postChange b.fill after
    (¬damaged →
      exec (.application wear) s = .next
        (if b.generation ≠ a.generation then State.count .overtaken 1 { u with reader := .idle }
        else if b.fill.service ≠ .active then State.count .faultDrop 1 { u with reader := .idle }
        else
          { notices.foldl
              (State.notify a.record.selection r.bin (some a.record.kind) (decide (r.lane = 8)) after) changed with
            reader := .idle }))
    ∧ (damaged →
      exec (.application wear) s = .next
        (State.count (if (s.bin r.bin).generation ≠ a.generation then .overtaken else .faultDrop) 1
          { found with reader := .idle }))

/-! ## Tallies and offers (chapters 6 and 7) -/

/-- A contribution change (R86, R91, R93 to R95): equal contributions hand nothing on; otherwise the old contribution is
removed from its zone's tally and the new one added to its own, and then each touched zone triggers when a count of its
tally has changed, or its litres have and lie at least the summary step from the reference: the reference becomes the
litres, and the trigger is counted. -/
def Obligations.ContributionChangesMoveAndTrigger : Prop :=
  ∀ (old new : FillState) (s : State),
    let a := old.contribution
    let b := new.contribution
    let t := s.postChange old new
    let taken := fun (z : Nat) =>
      let v := s.report.tally z
      if a.zone = some z then
        { v with
          members := v.members - 1, full := v.full - a.full.toNat, near := v.near - a.near.toNat
          stale := v.stale - a.stale.toNat, fallen := v.fallen - a.fallen.toNat, fault := v.fault - a.fault.toNat
          litres := v.litres - a.litres }
      else v
    let moved := fun (z : Nat) =>
      let v := taken z
      if b.zone = some z then
        { v with
          members := v.members + 1, full := v.full + b.full.toNat, near := v.near + b.near.toNat
          stale := v.stale + b.stale.toNat, fallen := v.fallen + b.fallen.toNat, fault := v.fault + b.fault.toNat
          litres := v.litres + b.litres }
      else v
    let triggers := fun (z : Nat) =>
      let u := s.report.tally z
      let v := moved z
      (a.zone = some z ∨ b.zone = some z)
        ∧ (u.members ≠ v.members ∨ u.full ≠ v.full ∨ u.near ≠ v.near ∨ u.stale ≠ v.stale ∨ u.fallen ≠ v.fallen
          ∨ u.fault ≠ v.fault
          ∨ (u.litres ≠ v.litres
              ∧ (v.reference + s.mgmt.params.summaryStep ≤ v.litres
                ∨ v.litres + s.mgmt.params.summaryStep ≤ v.reference)))
    (a = b → t = s)
    ∧ (a ≠ b →
        (∀ z, triggers z → t.report.tally z = { moved z with reference := (moved z).litres })
        ∧ (∀ z, ¬triggers z → t.report.tally z = moved z)
        ∧ ∀ zones : List Nat, zones.Nodup → (∀ z, z ∈ zones ↔ triggers z) →
            t.counter .zoneTrigger =
              if zones = [] then s.counter .zoneTrigger else (s.counter .zoneTrigger).rise zones.length)
    ∧ (∀ c, c ≠ .zoneTrigger → t.counter c = s.counter c)
    ∧ s.keepsAllBut [.tallies, .channels, .conditions, .counters] t

/-- The offer of a triggered zone and the offer of a notice (R101 to R103, R105, R109, R110): a channel that is OPEN or
STARVED with the zone in its set takes the zone unless it is already queued or owed, into the queue while it has room and
into the owed set otherwise; it takes the notice into the queue, or counts it lost up to 65,535 and raises REPORT-LOST.
An OPEN channel with an eligible entry and credit 0 is STARVED then, its CREDIT-OUT frozen, and STARVED is raised; every
other channel stays. -/
def Obligations.OffersAreTakenByServingChannels : Prop :=
  ∀ (now n zone : Nat) (notice : Notice) (r : Reporting), n < 8 →
    let c := r.channel n
    let serves := fun z => c.state ≠ .closed ∧ Bits.has z c.zones = true
    let settled := fun (d : Channel) =>
      if d.state = .opened ∧ 0 < d.eligible ∧ d.credit = 0 then
        { d with
          state := .starved
          creditOut :=
            some
              { destination := d.destination, channel := n, partTime := now, queueLength := d.queue.length
                lost := d.lost } }
      else d
    let known := (⟨.summary zone, false⟩ : Entry) ∈ c.queue ∨ (⟨.summary zone, true⟩ : Entry) ∈ c.queue
      ∨ Bits.has zone c.owed = true
    ((r.offerZone now zone).channel n =
      if ¬serves zone then c
      else if known then settled c
      else if c.queue.length < 64 then settled { c with queue := c.queue ++ [⟨.summary zone, false⟩] }
      else settled { c with owed := c.owed ||| BitVec.twoPow 64 zone })
    ∧ ((r.offerNotice now notice).channel n =
      if ¬serves notice.zone then c
      else if c.queue.length < 64 then settled { c with queue := c.queue ++ [⟨.notice notice, false⟩] }
      else { c with lost := min (c.lost + 1) 65535 })
    ∧ (Bits.has Flag.starved.index r.conditions.raised = false →
        (Bits.has Flag.starved.index (r.offerZone now zone).conditions.raised = true ↔
          ∃ m < 8, (r.channel m).state ≠ .starved ∧ ((r.offerZone now zone).channel m).state = .starved))
    ∧ (Bits.has Flag.reportLost.index r.conditions.raised = false →
        (Bits.has Flag.reportLost.index (r.offerNotice now notice).conditions.raised = true ↔
          ∃ m < 8, (r.channel m).state ≠ .closed ∧ Bits.has notice.zone (r.channel m).zones = true
            ∧ 64 ≤ (r.channel m).queue.length))

/-! ## The Sweep Engine (chapter 8) -/

/-- A visit (R123 to R127): the record read of a readable record, good or corrected, in an unheld segment finds an ACTIVE
bin silent longer than its limit and asks for the stale write; a held segment is skipped and counted; any other visit
ends, that of a damaged record with the bin treated as damaged.  The stale write sets the flag, hands on the change and
the STALE notice, and counts, when last heard and generation are those of the read, the segment is not held and the bin
is ACTIVE; otherwise, and when its repair finds damage, it is abandoned.  An ended visit is counted; at the last bin the
sweep ends, and a due AUTO sweep starts, its first visit requested at once (log entry 24: the model's choice); before it
the cursor moves on to the next visit, or the engine is SUSPENDED for a waiting SWEEP SUSPEND, which is answered at the
end of every visit with the engine's fields as they then stand. -/
def Obligations.VisitsFindSilentBins : Prop :=
  ∀ (r : Request) (wear : Wear) (s : State), s.storesCanonical → s.portGrant = some .sweepEngine →
    (s.mgmt.stage = .suspend → s.mgmt.queue.head? = some r ∧ r.kind = RequestKind.sweepSuspend.code) →
    let n := s.sweep.cursor
    let b := s.bin n
    let ended := fun (t : State) =>
      let e := { t.sweep with visited := t.sweep.visited + 1, stage := .none }
      let counted := t.count .sweepVisit 1
      let moved :=
        if s.sweep.cursor ≠ s.sweep.last then
          { counted with
            sweep :=
              { e with
                state := if s.mgmt.stage = .suspend then .suspended else e.state
                stage := if s.mgmt.stage = .suspend then .none else .read
                cursor := match s.sweep.direction with | .up => s.sweep.cursor + 1 | .down => s.sweep.cursor - 1 } }
        else
          State.count .sweepEnd 1
            { counted with
              sweep :=
                if s.sweep.autoDue = true then
                  { e with
                    state := .running, mode := .auto, first := 0, last := 4095, direction := .up, cursor := 0, visited := 0
                    found := 0, autoDue := false, stage := .read
                    countdown := if s.mgmt.params.sweepInterval = 0 then none else some s.mgmt.params.sweepInterval }
                else { e with state := .idle } }
      if s.mgmt.stage = .suspend then moved.answered .sweepSuspend r .done (sweepOctets moved.sweep) else moved
    (s.sweep.stage = .read →
      (worn wear b.badBits ≤ 1 →
        let u := s.readThrough .sweepEngine n wear
        exec (.visit wear) s = .next
          (if s.isHeld n = true then ended (u.count .sweepSkip 1)
          else if b.fill.service = .active ∧ b.fill.stale = false
              ∧ b.record.silenceLimit.getD s.mgmt.params.silenceLimit < s.mgmt.partTime - b.fill.lastHeard then
            { u with sweep := { s.sweep with stage := .write b.record b.generation b.fill.lastHeard } }
          else ended u))
      ∧ (2 ≤ worn wear b.badBits →
        exec (.visit wear) s = .next (ended (s.foundDamaged .sweepEngine false n wear))))
    ∧ ∀ record generation lastHeard, s.sweep.stage = .write record generation lastHeard →
        let w := s.writtenBin n wear
        let u := s.writeThrough .sweepEngine n wear
        let stale := { w.fill with stale := true }
        let damaged := b.repair = true ∧ 2 ≤ worn wear b.badBits
        (¬damaged →
          exec (.staleWrite wear) s = .next
            (ended
              (if w.fill.lastHeard = lastHeard ∧ w.generation = generation ∧ s.isHeld n = false
                  ∧ w.fill.service = .active then
                let t :=
                  ((u.setBin n { w with fill := stale }).postChange w.fill stale).notify record.selection n
                    (some record.kind) false stale .stale
                State.count .staleMark 1 { t with sweep := { s.sweep with found := s.sweep.found + 1 } }
              else u.count .staleAbandon 1)))
        ∧ (damaged →
          exec (.staleWrite wear) s = .next
            (ended ((s.foundDamaged .sweepEngine false n wear).count .staleAbandon 1)))

/-- The sweep requests (R121, R122, R127 to R130).  SWEEP START of an unlocked unit: a value out of range is BAD-VALUE,
an engine under way is BUSY, an inconsistent range locks the unit with the first bin, and otherwise a MANUAL sweep
starts, its first visit requested at once (log entry 24: the model's choice).
SUSPEND waits for the visit of a RUNNING engine, or suspends it at once when it has none, RESUME takes a SUSPENDED one
back to RUNNING, and either answers CONFLICT in another state; STOP halts the sweep and ends the lock; SWEEP READ answers with the engine's fields. -/
def Obligations.SweepRequestsAreAnswered : Prop :=
  ∀ (r : Request) (s : State),
    (s.offers .sweepStart r → s.mgmt.lock = none →
      let first := fieldAt 0 2 r.args
      let last := fieldAt 2 2 r.args
      let down := octetAt 4 r.args = 1
      let direction := if down then Direction.down else .up
      let started : SweepEngine :=
        { s.sweep with
          state := .running, mode := .manual, first := first, last := last, direction := direction, cursor := first
          visited := 0, found := 0, stage := .read }
      exec .sweepStart s = .next
        (if 1 < (octetAt 4 r.args).toNat ∨ 4095 < first ∨ 4095 < last then s.answered .sweepStart r .badValue []
        else if s.sweep.state ≠ .idle then s.answered .sweepStart r .busy []
        else if (down ∧ first < last) ∨ (¬down ∧ last < first) then s.lockedBy .sweepStart r .sweepRange first
        else ({ s with sweep := started } : State).answered .sweepStart r .done (sweepOctets started)))
    ∧ (s.offers .sweepSuspend r →
        (s.sweep.state = .running → s.sweep.stage ≠ .none →
          exec .sweepSuspend s = .next { s with mgmt := { s.mgmt with stage := .suspend } })
        ∧ (s.sweep.state = .running → s.sweep.stage = .none →
          exec .sweepSuspend s = .next
            (({ s with sweep := { s.sweep with state := .suspended } } : State).answered .sweepSuspend r .done
              (sweepOctets { s.sweep with state := .suspended })))
        ∧ (s.sweep.state ≠ .running → exec .sweepSuspend s = .next (s.answered .sweepSuspend r .conflict [])))
    ∧ (s.offers .sweepResume r →
        exec .sweepResume s = .next
          (if s.sweep.state = .suspended then
            ({ s with sweep := { s.sweep with state := .running, stage := .read } } : State).answered .sweepResume r .done []
          else s.answered .sweepResume r .conflict []))
    ∧ (s.offers .stop r →
        exec .stop s = .next
          (({ s with
              sweep := { s.sweep with state := .idle, autoDue := false, stage := .none }
              mgmt := { s.mgmt with lock := none } } : State).answered .stop r .done []))
    ∧ (s.offers .sweepRead r →
        exec .sweepRead s = .next
          (s.answered .sweepRead r .done
            ([s.sweep.state.code, s.sweep.mode.code] ++ beOctets 2 s.sweep.first ++ beOctets 2 s.sweep.last
              ++ [s.sweep.direction.code] ++ beOctets 2 s.sweep.cursor ++ beOctets 2 s.sweep.visited
              ++ beOctets 2 s.sweep.found ++ beOctets 4 (s.sweep.countdown.getD 4294967295)
              ++ [boolOctet s.sweep.autoDue] ++ beOctets 4 s.mgmt.params.sweepInterval
              ++ beOctets 4 s.mgmt.params.silenceLimit)))

/-! ## Management requests (chapters 7, 10 and 11) -/

/-- A request whose length is not its kind's is answered BAD-REQUEST; a table-changing request of the right length that
meets a locked unit is answered LOCKED with the lock's reason and number, whatever its values; a kind value that names
no kind is answered BAD-REQUEST.  Nothing but the reply and the command history changes (R144, R146, R147). -/
def Obligations.RequestsAreRefusedInOrder : Prop :=
  (∀ (c : Instr) (k : RequestKind) (r : Request) (s : State), servedKind c = some k →
    s.mgmt.stage = .idle → s.mgmt.reply = none → s.mgmt.queue.head? = some r → r.kind = k.code →
      (r.args.length ≠ k.argLength r.args →
        exec c s = .next
          (s.answered k r .badRequest (if k = .curveRead then [s.curves.active.code] else [])))
      ∧ ∀ reason number, r.args.length = k.argLength r.args → k.tableChanging = true →
          s.mgmt.lock = some (reason, number) →
            exec c s = .next (s.answered k r .locked (reason.code :: beOctets 2 number)))
    ∧ ∀ (r : Request) (s : State), s.mgmt.stage = .idle → s.mgmt.reply = none → s.mgmt.queue.head? = some r →
        (∀ k : RequestKind, r.kind ≠ k.code) →
        exec .unknownRequest s = .next
          { s with
            mgmt :=
              { s.mgmt with
                reply :=
                  some
                    { destination := r.source, tag := r.tag, kind := r.kind, result := .badRequest, content := [] }
                stage := .idle, newer := .unknown, older := s.mgmt.newer } }

/-- INFO, TIME SET, ZONE READ and CLEAR (R97, R146, R149, R151): INFO answers with the identity, the time, the lock, the
command history, the active bank and the lane activity octets; TIME SET sets Part Time and empties the Recent Arrivals
list; ZONE READ answers with one to eight tallies within 0 to 63, or BAD-VALUE; CLEAR ends the lock. -/
def Obligations.TimeZoneAndInfoRequestsAreAnswered : Prop :=
  ∀ (r : Request) (s : State),
    (s.offers .info r →
      exec .info s = .next
        (s.answered .info r .done
          ([0x4C, 0x24] ++ beOctets 1 s.mgmt.station ++ beOctets 1 s.mgmt.speed ++ beOctets 4 s.mgmt.partTime
            ++ (match s.mgmt.lock with
                | none => [0x00, 0x00, 0x00, 0x00]
                | some (reason, number) => 0x01 :: reason.code :: beOctets 2 number)
            ++ [s.mgmt.newer.code, s.mgmt.older.code, s.curves.active.code]
            ++ [0, 1, 2, 3, 4, 5, 6, 7, 8].flatMap fun lane => beOctets 1 (Table.get 0 lane s.field.activity))))
    ∧ (s.offers .timeSet r →
        exec .timeSet s = .next
          (({ s with
              filter := { entries := [], retiring := none }
              mgmt := { s.mgmt with partTime := fieldAt 0 4 r.args } } : State).answered .timeSet r .done
            (beOctets 4 s.mgmt.partTime ++ beOctets 4 (fieldAt 0 4 r.args))))
    ∧ (s.offers .zoneRead r →
        let first := (octetAt 0 r.args).toNat
        let count := (octetAt 1 r.args).toNat
        exec .zoneRead s = .next
          (if 1 ≤ count ∧ count ≤ 8 ∧ first + count ≤ 64 then
            s.answered .zoneRead r .done
              (beOctets 2 s.mgmt.params.summaryStep
                ++ (List.range count).flatMap fun i => zoneOctets (first + i) (s.report.tally (first + i)))
          else s.answered .zoneRead r .badValue []))
    ∧ (s.offers .clear r →
        exec .clear s = .next (({ s with mgmt := { s.mgmt with lock := none } } : State).answered .clear r .done []))

/-- PARAM SET and PARAM READ (R119, R150): each present value is taken, clamped into its range, and marked when the clamp
changed it; an absent one stays; the reply carries the marks and the seven values in use.  A present sweep interval sets
the auto countdown from it while no AUTO sweep is due; 0 stops the countdown and ends a due AUTO sweep.  That bit 7 of the
presence octet is ignored and bit 7 of the marks sent as 0 is the model's choice (log entries 25 and 26). -/
def Obligations.ParametersAreClampedAndAnswered : Prop :=
  ∀ (r : Request) (s : State),
    let clamp := fun (low high value : Nat) => if value < low then low else if high < value then high else value
    let given := fun (i : Nat) => if (octetAt 0 r.args).getLsbD i = true then some (fieldAt (1 + 4 * i) 4 r.args) else none
    let clamped : List (Nat → Nat) :=
      [clamp 2 15, clamp 600 604800, fun v => if v = 0 then 0 else clamp 60 86400 v, clamp 10 3600, clamp 100 900,
        clamp 0 65535, clamp 10 3600]
    let used := fun (i old : Nat) => match given i with
      | none => old
      | some value => (clamped.getD i id) value
    let p := s.mgmt.params
    let params : Params :=
      { dedupHold := used 0 p.dedupHold, silenceLimit := used 1 p.silenceLimit, sweepInterval := used 2 p.sweepInterval
        pacePeriod := used 3 p.pacePeriod, emptiedDrop := used 4 p.emptiedDrop, summaryStep := used 5 p.summaryStep
        holdLimit := used 6 p.holdLimit }
    (s.offers .paramSet r →
      ∃ marks : Octet,
        exec .paramSet s = .next
          (({ s with
              mgmt := { s.mgmt with params := params }
              sweep :=
                if given 2 = none then s.sweep
                else if params.sweepInterval = 0 then
                  { s.sweep with countdown := none, autoDue := false, expired := false }
                else if s.sweep.autoDue = true then s.sweep
                else { s.sweep with countdown := some params.sweepInterval, expired := false } } : State).answered
            .paramSet r .done (marks :: paramOctets params))
        ∧ (∀ i < 7, marks.getLsbD i = (given i).any fun value => (clamped.getD i id) value != value)
        ∧ marks.getLsbD 7 = false)
    ∧ (s.offers .paramRead r → exec .paramRead s = .next (s.answered .paramRead r .done (0x00 :: paramOctets p)))

/-- RESTART (R25, R99, R117, R131, R146, R152, R153, R156, R157, R160): the request is answered DONE and its effect waits
for the grant of the reply.  Then the Reading Unit is IDLE, the lists are empty, no segment is held, every ACTIVE bin
starts afresh in its counted zone, the tallies keep members and faults alone, the channels are emptied, the lock ends,
and flags, statistics, sweep and Test Generator take their RESTART states; records, curves, settings, links and Part
Time stay.  Taking the table-wide clear grant first comes to the same state (log entry 9: the model's choice). -/
def Obligations.RestartClearsTheWorkingState : Prop :=
  (∀ (r : Request) (s : State), s.offers .restart r →
    exec .restart s = .next
      { s.answered .restart r .done [] with mgmt := { (s.answered .restart r .done []).mgmt with stage := .restartReply } })
  ∧ ∀ s : State, s.storesCanonical → s.mgmt.stage = .restartDue →
      (∃ u, exec .tableWideClear s = .next u ∧ u.mgmt = { s.mgmt with stage := .restartCleared }
        ∧ exec .restartCarriedOut u = exec .restartCarriedOut s)
      ∧ ∃ t, exec .restartCarriedOut s = .next t
        ∧ t.reader = .idle ∧ t.filter = { entries := [], retiring := none }
        ∧ t.table.held = [] ∧ t.table.park = []
        ∧ (∀ n, t.bin n =
            { s.bin n with
              fill :=
                if (s.bin n).fill.service = .active then
                  { FillState.reset with
                    service := .active, lastHeard := s.mgmt.partTime, countedZone := (s.bin n).fill.countedZone }
                else (s.bin n).fill })
        ∧ (∀ z, t.report.tally z =
            { members := (s.report.tally z).members, full := 0, near := 0, stale := 0, fallen := 0
              fault := (s.report.tally z).fault, litres := 0, reference := 0 })
        ∧ (∀ n, t.report.channel n =
            { s.report.channel n with
              state := if (s.report.channel n).state = .starved then .opened else (s.report.channel n).state
              credit := 0, queue := [], owed := 0, lost := 0, creditOut := none })
        ∧ t.report.conditions =
            { s.report.conditions with
              raised := 0, noticeWaiting := false, gainInHoldoff := false, lastSent := 0, counters := []
              snapshotTime := s.mgmt.partTime }
        ∧ t.mgmt = { s.mgmt with lock := none, stage := .idle }
        ∧ t.sweep = { s.sweep with state := .idle, autoDue := false, stage := .none }
        ∧ t.test = { s.test with running := false, generated := 0, applied := 0 }
        ∧ t.table.protectedSegments = s.table.protectedSegments
        ∧ s.keepsAllBut
            [.reader, .filter, .segments, .park, .bins, .tallies, .channels, .conditions, .counters, .mgmt, .sweep, .test]
            t

/-- The channel requests (R111 to R113, R115, section 7.6): a channel above 7 is BAD-VALUE.  CHANNEL SET opens the channel
with its destination, zones and mode, emptied, its credit kept; CHANNEL CLOSE closes and empties it; CREDIT adds credit
up to 255 and opens a STARVED channel, its pending CREDIT-OUT kept; CHANNEL READ answers with the channel's fields, bits
without a meaning sent as 0 (log entry 25: the model's choice). -/
def Obligations.ChannelRequestsAreAnswered : Prop :=
  ∀ (r : Request) (s : State),
    let n := (octetAt 0 r.args).toNat
    let c := s.report.channel n
    let withChannel := fun (d : Channel) => { s with report := s.report.setChannel n d }
    (s.offers .channelSet r →
      let mode := if octetAt 11 r.args = 1 then ChannelMode.paced else .prompt
      exec .channelSet s = .next
        (if 7 < n ∨ 1 < (octetAt 11 r.args).toNat then s.answered .channelSet r .badValue []
        else
          (withChannel
            { state := .opened, destination := fieldAt 1 2 r.args, zones := BitVec.ofNat 64 (fieldAt 3 8 r.args)
              mode := mode, credit := c.credit, queue := [], owed := 0, lost := 0, creditOut := none }).answered
            .channelSet r .done (beOctets 1 c.credit)))
    ∧ (s.offers .channelClose r →
        exec .channelClose s = .next
          (if 7 < n then s.answered .channelClose r .badValue []
          else
            (withChannel
              { c with state := .closed, credit := 0, queue := [], owed := 0, creditOut := none }).answered
              .channelClose r .done []))
    ∧ (s.offers .credit r →
        let amount := (octetAt 1 r.args).toNat
        exec .credit s = .next
          (if 7 < n ∨ amount = 0 then s.answered .credit r .badValue []
          else
            (withChannel
              { c with
                credit := min (c.credit + amount) 255
                state := if c.state = .starved then .opened else c.state }).answered
              .credit r .done (beOctets 1 (min (c.credit + amount) 255))))
    ∧ (s.offers .channelRead r →
        let pending : Nat := if c.creditOut ≠ none then 1 else 0
        let request : Nat := if c.requests = true then 2 else 0
        exec .channelRead s = .next
          (if 7 < n then s.answered .channelRead r .badValue []
          else
            s.answered .channelRead r .done
              ([c.state.code] ++ beOctets 2 c.destination ++ beOctets 8 c.zones.toNat ++ [c.mode.code]
                ++ beOctets 1 c.credit ++ beOctets 1 c.queue.length ++ beOctets 1 c.queuedZones.length
                ++ beOctets 1 (if c.mode = .paced then c.eligible else 0)
                ++ beOctets 8 c.owed.toNat ++ beOctets 2 c.lost ++ [BitVec.ofNat 8 (pending + request)]
                ++ beOctets 4 s.mgmt.params.pacePeriod)))

/-- SYNC (R114): BAD-VALUE above channel 7, CONFLICT while CLOSED; otherwise every zone of the set that is neither queued
nor owed joins the queue in rising order while it has room, and is owed after that; the reply counts the zones queued,
those already queued or owed, and those owed.  The exhaustion of a PROMPT channel without credit falls at the first
zone queued (log entry 11: the model's reading). -/
def Obligations.SyncOffersTheWholeSet : Prop :=
  ∀ (r : Request) (s : State), s.offers .sync r →
    let n := (octetAt 0 r.args).toNat
    let c := s.report.channel n
    let fresh := (Bits.members c.zones).filter fun z => !c.hasSummary z && !Bits.has z c.owed
    let joined := fresh.take (64 - c.queue.length)
    let owed := fresh.drop (64 - c.queue.length)
    let starves := c.state = .opened ∧ c.credit = 0 ∧ c.mode = .prompt ∧ joined ≠ []
    (7 < n → exec .sync s = .next (s.answered .sync r .badValue []))
    ∧ (n ≤ 7 → c.state = .closed → exec .sync s = .next (s.answered .sync r .conflict []))
    ∧ (n ≤ 7 → c.state ≠ .closed → c.exhausted = false →
        ∃ (owes : BitVec 64) (t : State),
          exec .sync s = .next
            (t.answered .sync r .done
              (beOctets 1 joined.length ++ beOctets 1 ((Bits.members c.zones).length - fresh.length)
                ++ beOctets 1 owed.length))
          ∧ (∀ z < 64, Bits.has z owes = (Bits.has z c.owed || owed.contains z))
          ∧ t.report.channel n =
              { c with
                queue := c.queue ++ joined.map fun zone => ⟨.summary zone, false⟩
                owed := owes
                state := if starves then .starved else c.state
                creditOut :=
                  if starves then
                    some
                      { destination := c.destination, channel := n, partTime := s.mgmt.partTime
                        queueLength := c.queue.length + 1, lost := c.lost }
                  else c.creditOut }
          ∧ (∀ m, m ≠ n → t.report.channel m = s.report.channel m)
          ∧ t.report.conditions = (if starves then s.report.conditions.raise .starved else s.report.conditions)
          ∧ s.keepsAllBut [.channels, .conditions] t)

/-- The requests on condition flags and statistics (R154, R155, R157).  ALERT SET replaces the enable set and keeps, sets
or removes the alert address, withdraws a waiting notice without an address, and judges a flag newly in the alert set as
a gain; ALERT CLEAR clears the named sticky flags, LOCKED following the lock; SNAPSHOT copies every live counter, with
the zero option sets it to 0, and notes the time; STATS READ answers with 1 to 32 counters within 0 to 48.  The address
octets 0 of an ALERT READ reply without an address are a reading of the ALERT SET row (log entry 15). -/
def Obligations.ConditionRequestsAreAnswered : Prop :=
  ∀ (r : Request) (s : State),
    let u := s.report.conditions
    let withConditions := fun (v : ConditionUnit) => { s with report := { s.report with conditions := v } }
    let addressOf := fun (address : Option Nat) => boolOctet address.isSome :: beOctets 2 (address.getD 0)
    (s.offers .alertSet r →
      let enabled := BitVec.ofNat 12 (fieldAt 0 2 r.args)
      let choice := (octetAt 2 r.args).toNat
      let address :=
        if choice = 0 then u.address else if choice = 1 then some (fieldAt 3 2 r.args) else none
      let chosen := { u with enabled := enabled, address := address, noticeWaiting := u.noticeWaiting && address.isSome }
      let enters := s.raisedFlags &&& enabled &&& ~~~u.enabled ≠ 0
      exec .alertSet s = .next
        (if 2 < choice then s.answered .alertSet r .badValue []
        else
          (withConditions
            (if enters ∧ address ≠ none ∧ chosen.noticeWaiting = false then
              if u.holdoff = none then { chosen with noticeWaiting := true } else { chosen with gainInHoldoff := true }
            else chosen)).answered .alertSet r .done (beOctets 2 enabled.toNat ++ addressOf address)))
    ∧ (s.offers .alertRead r →
        exec .alertRead s = .next
          (s.answered .alertRead r .done
            (beOctets 2 s.raisedFlags.toNat ++ beOctets 2 u.enabled.toNat
              ++ beOctets 2 (s.raisedFlags &&& u.enabled).toNat ++ addressOf u.address
              ++ beOctets 1 (u.holdoff.getD 0) ++ [boolOctet u.noticeWaiting] ++ beOctets 2 u.lastSent.toNat)))
    ∧ (s.offers .alertClear r →
        let raised := u.raised &&& ~~~BitVec.ofNat 12 (fieldAt 0 2 r.args)
        ∃ v : BitVec 12,
          exec .alertClear s = .next
            ((withConditions { u with raised := raised }).answered .alertClear r .done (beOctets 2 v.toNat))
          ∧ ∀ f : Flag, Bits.has f.index v =
              if f = .locked then s.mgmt.lock.isSome
              else Bits.has f.index u.raised && !Bits.has f.index (BitVec.ofNat 12 (fieldAt 0 2 r.args)))
    ∧ (s.offers .snapshot r →
        let option := (octetAt 0 r.args).toNat
        (1 < option → exec .snapshot s = .next (s.answered .snapshot r .badValue []))
        ∧ (option ≤ 1 →
            ∃ t : State,
              exec .snapshot s = .next (t.answered .snapshot r .done (beOctets 4 s.mgmt.partTime))
              ∧ t.report.conditions = { u with counters := t.report.conditions.counters, snapshotTime := s.mgmt.partTime }
              ∧ s.keepsAllBut [.counters, .conditions] t
              ∧ (s.storesCanonical → ∀ c, t.counter c =
                  { live := if option = 1 then 0 else (s.counter c).live, snap := (s.counter c).live
                    changed := false })))
    ∧ (s.offers .statsRead r →
        let first := (octetAt 0 r.args).toNat
        let count := (octetAt 1 r.args).toNat
        exec .statsRead s = .next
          (if 1 ≤ count ∧ count ≤ 32 ∧ first + count ≤ 49 then
            s.answered .statsRead r .done
              (beOctets 4 u.snapshotTime
                ++ (List.range count).flatMap fun i =>
                    beOctets 4 (u.counter (first + i)).snap ++ [boolOctet (u.counter (first + i)).changed])
          else s.answered .statsRead r .badValue []))

/-- The Test Generator (R158 to R160): TEST START judges its ranges, is BUSY while RUNNING, and otherwise takes the
arguments with the counts at 0; a generator RUNNING at its interval makes a frame for its bin on lane 8, counts it and
offers it, and moves on to the next bin or the next pass, its distance falling by the step down to 100 mm; TEST STOP
stops it; TEST READ answers with its fields and the shortfall, raises TEST-SHORT when that is not 0, and sets the counts
to 0. -/
def Obligations.TestGeneratorRuns : Prop :=
  (∀ (r : Request) (s : State),
    let g := s.test
    (s.offers .testStart r →
      let mode := if octetAt 12 r.args = 1 then TestMode.replace else .mix
      let a : TestArgs :=
        { first := fieldAt 0 2 r.args, last := fieldAt 2 2 r.args, tag := fieldAt 4 2 r.args
          startDistance := fieldAt 6 2 r.args, step := fieldAt 8 2 r.args, interval := fieldAt 10 2 r.args, mode := mode }
      exec .testStart s = .next
        (if ¬((octetAt 12 r.args).toNat ≤ 1 ∧ a.first ≤ a.last ∧ a.last ≤ 4095 ∧ 100 ≤ a.startDistance
            ∧ a.startDistance ≤ 4000 ∧ 1 ≤ a.step ∧ a.step ≤ 500 ∧ 5 ≤ a.interval ∧ a.interval ≤ 1000) then
          s.answered .testStart r .badValue []
        else if g.running = true then s.answered .testStart r .busy []
        else
          ({ s with
              test :=
                { running := true, args := a, bin := a.first, distance := a.startDistance, sequence := 0
                  generated := 0, applied := 0 } } : State).answered .testStart r .done []))
    ∧ (s.offers .testStop r →
        exec .testStop s = .next
          (if g.running = true then
            ({ s with test := { g with running := false } } : State).answered .testStop r .done []
          else s.answered .testStop r .conflict []))
    ∧ (s.offers .testRead r →
        let t := if g.applied < g.generated then s.raise .testShort else s
        exec .testRead s = .next
          (({ t with test := { g with generated := 0, applied := 0 } } : State).answered .testRead r .done
            ([boolOctet g.running] ++ beOctets 2 g.args.first ++ beOctets 2 g.args.last ++ beOctets 2 g.args.tag
              ++ beOctets 2 g.args.startDistance ++ beOctets 2 g.args.step ++ beOctets 2 g.args.interval
              ++ [g.args.mode.code] ++ beOctets 2 g.bin ++ beOctets 2 g.distance ++ beOctets 1 g.sequence
              ++ beOctets 4 g.generated ++ beOctets 4 g.applied ++ beOctets 4 (g.generated - g.applied)))))
  ∧ ∀ s : State,
      let g := s.test
      let echo := (g.distance * 2000000 + 343419) / 343420
      let counted := { g with generated := min (g.generated + 1) 4294967295 }
      let moved :=
        if g.bin = g.args.last then
          { counted with
            bin := g.args.first, sequence := (g.sequence + 1) % 256
            distance := if g.distance < g.args.step + 100 then g.args.startDistance else g.distance - g.args.step }
        else { counted with bin := g.bin + 1 }
      (g.running = true →
        exec .testIntervalExpiry s = .next
          (({ s with test := moved } : State).offerSensor
            { bin := g.bin, tag := g.args.tag, sequence := g.sequence, tilt := false, lidOpen := false
              temperature := 20, lane := 8, margin := 0, echoes := [echo, echo, echo] }))
      ∧ (g.running = false → exec .testIntervalExpiry s = .next s)
end

