-- ==== Sys2Proof/Laws/State.lean ====
section
/-! SUPPORT. One lemma for each field of the state under each named update: what the update makes of the field it
writes, and that the other fields stay. -/

namespace Sys2Proof.Machine

variable (s : State)

/-! ### onReport -/

@[simp] theorem State.onReport_field (f : Reporting → Reporting) : (s.onReport f).field = s.field := rfl
@[simp] theorem State.onReport_trunk (f : Reporting → Reporting) : (s.onReport f).trunk = s.trunk := rfl
@[simp] theorem State.onReport_filter (f : Reporting → Reporting) : (s.onReport f).filter = s.filter := rfl
@[simp] theorem State.onReport_reader (f : Reporting → Reporting) : (s.onReport f).reader = s.reader := rfl
@[simp] theorem State.onReport_table (f : Reporting → Reporting) : (s.onReport f).table = s.table := rfl
@[simp] theorem State.onReport_curves (f : Reporting → Reporting) : (s.onReport f).curves = s.curves := rfl
@[simp] theorem State.onReport_report (f : Reporting → Reporting) : (s.onReport f).report = f s.report := rfl
@[simp] theorem State.onReport_sweep (f : Reporting → Reporting) : (s.onReport f).sweep = s.sweep := rfl
@[simp] theorem State.onReport_mgmt (f : Reporting → Reporting) : (s.onReport f).mgmt = s.mgmt := rfl
@[simp] theorem State.onReport_test (f : Reporting → Reporting) : (s.onReport f).test = s.test := rfl
@[simp] theorem State.onReport_freeCount (f : Reporting → Reporting) : (s.onReport f).freeCount = s.freeCount := rfl
@[simp] theorem State.onReport_pending (f : Reporting → Reporting) : (s.onReport f).pending = s.pending := rfl

/-! ### onMgmt -/

@[simp] theorem State.onMgmt_field (f : ManagementUnit → ManagementUnit) : (s.onMgmt f).field = s.field := rfl
@[simp] theorem State.onMgmt_trunk (f : ManagementUnit → ManagementUnit) : (s.onMgmt f).trunk = s.trunk := rfl
@[simp] theorem State.onMgmt_filter (f : ManagementUnit → ManagementUnit) : (s.onMgmt f).filter = s.filter := rfl
@[simp] theorem State.onMgmt_reader (f : ManagementUnit → ManagementUnit) : (s.onMgmt f).reader = s.reader := rfl
@[simp] theorem State.onMgmt_table (f : ManagementUnit → ManagementUnit) : (s.onMgmt f).table = s.table := rfl
@[simp] theorem State.onMgmt_curves (f : ManagementUnit → ManagementUnit) : (s.onMgmt f).curves = s.curves := rfl
@[simp] theorem State.onMgmt_report (f : ManagementUnit → ManagementUnit) : (s.onMgmt f).report = s.report := rfl
@[simp] theorem State.onMgmt_sweep (f : ManagementUnit → ManagementUnit) : (s.onMgmt f).sweep = s.sweep := rfl
@[simp] theorem State.onMgmt_mgmt (f : ManagementUnit → ManagementUnit) : (s.onMgmt f).mgmt = f s.mgmt := rfl
@[simp] theorem State.onMgmt_test (f : ManagementUnit → ManagementUnit) : (s.onMgmt f).test = s.test := rfl
@[simp] theorem State.onMgmt_freeCount (f : ManagementUnit → ManagementUnit) :
    (s.onMgmt f).freeCount = s.freeCount := rfl
@[simp] theorem State.onMgmt_pending (f : ManagementUnit → ManagementUnit) : (s.onMgmt f).pending = s.pending := rfl

/-! ### onSweep -/

@[simp] theorem State.onSweep_field (f : SweepEngine → SweepEngine) : (s.onSweep f).field = s.field := rfl
@[simp] theorem State.onSweep_trunk (f : SweepEngine → SweepEngine) : (s.onSweep f).trunk = s.trunk := rfl
@[simp] theorem State.onSweep_filter (f : SweepEngine → SweepEngine) : (s.onSweep f).filter = s.filter := rfl
@[simp] theorem State.onSweep_reader (f : SweepEngine → SweepEngine) : (s.onSweep f).reader = s.reader := rfl
@[simp] theorem State.onSweep_table (f : SweepEngine → SweepEngine) : (s.onSweep f).table = s.table := rfl
@[simp] theorem State.onSweep_curves (f : SweepEngine → SweepEngine) : (s.onSweep f).curves = s.curves := rfl
@[simp] theorem State.onSweep_report (f : SweepEngine → SweepEngine) : (s.onSweep f).report = s.report := rfl
@[simp] theorem State.onSweep_sweep (f : SweepEngine → SweepEngine) : (s.onSweep f).sweep = f s.sweep := rfl
@[simp] theorem State.onSweep_mgmt (f : SweepEngine → SweepEngine) : (s.onSweep f).mgmt = s.mgmt := rfl
@[simp] theorem State.onSweep_test (f : SweepEngine → SweepEngine) : (s.onSweep f).test = s.test := rfl
@[simp] theorem State.onSweep_freeCount (f : SweepEngine → SweepEngine) : (s.onSweep f).freeCount = s.freeCount := rfl
@[simp] theorem State.onSweep_pending (f : SweepEngine → SweepEngine) : (s.onSweep f).pending = s.pending := rfl

/-! ### onFilter -/

@[simp] theorem State.onFilter_field (f : ArrivalFilter → ArrivalFilter) : (s.onFilter f).field = s.field := rfl
@[simp] theorem State.onFilter_trunk (f : ArrivalFilter → ArrivalFilter) : (s.onFilter f).trunk = s.trunk := rfl
@[simp] theorem State.onFilter_filter (f : ArrivalFilter → ArrivalFilter) : (s.onFilter f).filter = f s.filter := rfl
@[simp] theorem State.onFilter_reader (f : ArrivalFilter → ArrivalFilter) : (s.onFilter f).reader = s.reader := rfl
@[simp] theorem State.onFilter_table (f : ArrivalFilter → ArrivalFilter) : (s.onFilter f).table = s.table := rfl
@[simp] theorem State.onFilter_curves (f : ArrivalFilter → ArrivalFilter) : (s.onFilter f).curves = s.curves := rfl
@[simp] theorem State.onFilter_report (f : ArrivalFilter → ArrivalFilter) : (s.onFilter f).report = s.report := rfl
@[simp] theorem State.onFilter_sweep (f : ArrivalFilter → ArrivalFilter) : (s.onFilter f).sweep = s.sweep := rfl
@[simp] theorem State.onFilter_mgmt (f : ArrivalFilter → ArrivalFilter) : (s.onFilter f).mgmt = s.mgmt := rfl
@[simp] theorem State.onFilter_test (f : ArrivalFilter → ArrivalFilter) : (s.onFilter f).test = s.test := rfl
@[simp] theorem State.onFilter_freeCount (f : ArrivalFilter → ArrivalFilter) :
    (s.onFilter f).freeCount = s.freeCount := rfl
@[simp] theorem State.onFilter_pending (f : ArrivalFilter → ArrivalFilter) : (s.onFilter f).pending = s.pending := rfl

/-! ### onTest -/

@[simp] theorem State.onTest_field (f : TestGenerator → TestGenerator) : (s.onTest f).field = s.field := rfl
@[simp] theorem State.onTest_trunk (f : TestGenerator → TestGenerator) : (s.onTest f).trunk = s.trunk := rfl
@[simp] theorem State.onTest_filter (f : TestGenerator → TestGenerator) : (s.onTest f).filter = s.filter := rfl
@[simp] theorem State.onTest_reader (f : TestGenerator → TestGenerator) : (s.onTest f).reader = s.reader := rfl
@[simp] theorem State.onTest_table (f : TestGenerator → TestGenerator) : (s.onTest f).table = s.table := rfl
@[simp] theorem State.onTest_curves (f : TestGenerator → TestGenerator) : (s.onTest f).curves = s.curves := rfl
@[simp] theorem State.onTest_report (f : TestGenerator → TestGenerator) : (s.onTest f).report = s.report := rfl
@[simp] theorem State.onTest_sweep (f : TestGenerator → TestGenerator) : (s.onTest f).sweep = s.sweep := rfl
@[simp] theorem State.onTest_mgmt (f : TestGenerator → TestGenerator) : (s.onTest f).mgmt = s.mgmt := rfl
@[simp] theorem State.onTest_test (f : TestGenerator → TestGenerator) : (s.onTest f).test = f s.test := rfl
@[simp] theorem State.onTest_freeCount (f : TestGenerator → TestGenerator) :
    (s.onTest f).freeCount = s.freeCount := rfl
@[simp] theorem State.onTest_pending (f : TestGenerator → TestGenerator) : (s.onTest f).pending = s.pending := rfl

/-! ### onConditions -/

@[simp] theorem State.onConditions_field (f : ConditionUnit → ConditionUnit) :
    (s.onConditions f).field = s.field := rfl
@[simp] theorem State.onConditions_trunk (f : ConditionUnit → ConditionUnit) :
    (s.onConditions f).trunk = s.trunk := rfl
@[simp] theorem State.onConditions_filter (f : ConditionUnit → ConditionUnit) :
    (s.onConditions f).filter = s.filter := rfl
@[simp] theorem State.onConditions_reader (f : ConditionUnit → ConditionUnit) :
    (s.onConditions f).reader = s.reader := rfl
@[simp] theorem State.onConditions_table (f : ConditionUnit → ConditionUnit) :
    (s.onConditions f).table = s.table := rfl
@[simp] theorem State.onConditions_curves (f : ConditionUnit → ConditionUnit) :
    (s.onConditions f).curves = s.curves := rfl
@[simp] theorem State.onConditions_report (f : ConditionUnit → ConditionUnit) :
    (s.onConditions f).report = { s.report with conditions := f s.report.conditions } := rfl
@[simp] theorem State.onConditions_sweep (f : ConditionUnit → ConditionUnit) :
    (s.onConditions f).sweep = s.sweep := rfl
@[simp] theorem State.onConditions_mgmt (f : ConditionUnit → ConditionUnit) : (s.onConditions f).mgmt = s.mgmt := rfl
@[simp] theorem State.onConditions_test (f : ConditionUnit → ConditionUnit) : (s.onConditions f).test = s.test := rfl
@[simp] theorem State.onConditions_freeCount (f : ConditionUnit → ConditionUnit) :
    (s.onConditions f).freeCount = s.freeCount := rfl
@[simp] theorem State.onConditions_pending (f : ConditionUnit → ConditionUnit) :
    (s.onConditions f).pending = s.pending := rfl

/-! ### count -/

@[simp] theorem State.count_field (c : Ctr) (n : Nat) : (s.count c n).field = s.field := rfl
@[simp] theorem State.count_trunk (c : Ctr) (n : Nat) : (s.count c n).trunk = s.trunk := rfl
@[simp] theorem State.count_filter (c : Ctr) (n : Nat) : (s.count c n).filter = s.filter := rfl
@[simp] theorem State.count_reader (c : Ctr) (n : Nat) : (s.count c n).reader = s.reader := rfl
@[simp] theorem State.count_table (c : Ctr) (n : Nat) : (s.count c n).table = s.table := rfl
@[simp] theorem State.count_curves (c : Ctr) (n : Nat) : (s.count c n).curves = s.curves := rfl
@[simp] theorem State.count_report (c : Ctr) (n : Nat) : (s.count c n).report = s.report.count c n := rfl
@[simp] theorem State.count_sweep (c : Ctr) (n : Nat) : (s.count c n).sweep = s.sweep := rfl
@[simp] theorem State.count_mgmt (c : Ctr) (n : Nat) : (s.count c n).mgmt = s.mgmt := rfl
@[simp] theorem State.count_test (c : Ctr) (n : Nat) : (s.count c n).test = s.test := rfl
@[simp] theorem State.count_freeCount (c : Ctr) (n : Nat) : (s.count c n).freeCount = s.freeCount := rfl
@[simp] theorem State.count_pending (c : Ctr) (n : Nat) : (s.count c n).pending = s.pending := rfl

/-! ### raise -/

@[simp] theorem State.raise_field (f : Flag) : (s.raise f).field = s.field := rfl
@[simp] theorem State.raise_trunk (f : Flag) : (s.raise f).trunk = s.trunk := rfl
@[simp] theorem State.raise_filter (f : Flag) : (s.raise f).filter = s.filter := rfl
@[simp] theorem State.raise_reader (f : Flag) : (s.raise f).reader = s.reader := rfl
@[simp] theorem State.raise_table (f : Flag) : (s.raise f).table = s.table := rfl
@[simp] theorem State.raise_curves (f : Flag) : (s.raise f).curves = s.curves := rfl
@[simp] theorem State.raise_report (f : Flag) : (s.raise f).report = s.report.raise f := rfl
@[simp] theorem State.raise_sweep (f : Flag) : (s.raise f).sweep = s.sweep := rfl
@[simp] theorem State.raise_mgmt (f : Flag) : (s.raise f).mgmt = s.mgmt := rfl
@[simp] theorem State.raise_test (f : Flag) : (s.raise f).test = s.test := rfl
@[simp] theorem State.raise_freeCount (f : Flag) : (s.raise f).freeCount = s.freeCount := rfl
@[simp] theorem State.raise_pending (f : Flag) : (s.raise f).pending = s.pending := rfl

/-! ### setBin -/

@[simp] theorem State.setBin_field (n : Nat) (b : Bin) : (s.setBin n b).field = s.field := rfl
@[simp] theorem State.setBin_trunk (n : Nat) (b : Bin) : (s.setBin n b).trunk = s.trunk := rfl
@[simp] theorem State.setBin_filter (n : Nat) (b : Bin) : (s.setBin n b).filter = s.filter := rfl
@[simp] theorem State.setBin_reader (n : Nat) (b : Bin) : (s.setBin n b).reader = s.reader := rfl
@[simp] theorem State.setBin_table (n : Nat) (b : Bin) :
    (s.setBin n b).table = { s.table with bins := Table.set Bin.reset n b s.table.bins } := rfl
@[simp] theorem State.setBin_curves (n : Nat) (b : Bin) : (s.setBin n b).curves = s.curves := rfl
@[simp] theorem State.setBin_report (n : Nat) (b : Bin) : (s.setBin n b).report = s.report := rfl
@[simp] theorem State.setBin_sweep (n : Nat) (b : Bin) : (s.setBin n b).sweep = s.sweep := rfl
@[simp] theorem State.setBin_mgmt (n : Nat) (b : Bin) : (s.setBin n b).mgmt = s.mgmt := rfl
@[simp] theorem State.setBin_test (n : Nat) (b : Bin) : (s.setBin n b).test = s.test := rfl
@[simp] theorem State.setBin_freeCount (n : Nat) (b : Bin) : (s.setBin n b).freeCount = s.freeCount := rfl
@[simp] theorem State.setBin_pending (n : Nat) (b : Bin) : (s.setBin n b).pending = s.pending := rfl

/-! ### setChannel -/

@[simp] theorem State.setChannel_field (n : Nat) (c : Channel) : (s.setChannel n c).field = s.field := rfl
@[simp] theorem State.setChannel_trunk (n : Nat) (c : Channel) : (s.setChannel n c).trunk = s.trunk := rfl
@[simp] theorem State.setChannel_filter (n : Nat) (c : Channel) : (s.setChannel n c).filter = s.filter := rfl
@[simp] theorem State.setChannel_reader (n : Nat) (c : Channel) : (s.setChannel n c).reader = s.reader := rfl
@[simp] theorem State.setChannel_table (n : Nat) (c : Channel) : (s.setChannel n c).table = s.table := rfl
@[simp] theorem State.setChannel_curves (n : Nat) (c : Channel) : (s.setChannel n c).curves = s.curves := rfl
@[simp] theorem State.setChannel_report (n : Nat) (c : Channel) :
    (s.setChannel n c).report = s.report.setChannel n c := rfl
@[simp] theorem State.setChannel_sweep (n : Nat) (c : Channel) : (s.setChannel n c).sweep = s.sweep := rfl
@[simp] theorem State.setChannel_mgmt (n : Nat) (c : Channel) : (s.setChannel n c).mgmt = s.mgmt := rfl
@[simp] theorem State.setChannel_test (n : Nat) (c : Channel) : (s.setChannel n c).test = s.test := rfl
@[simp] theorem State.setChannel_freeCount (n : Nat) (c : Channel) : (s.setChannel n c).freeCount = s.freeCount := rfl
@[simp] theorem State.setChannel_pending (n : Nat) (c : Channel) : (s.setChannel n c).pending = s.pending := rfl

/-! ### readerTo -/

@[simp] theorem State.readerTo_field (r : ReadingUnit) : (s.readerTo r).field = s.field := rfl
@[simp] theorem State.readerTo_trunk (r : ReadingUnit) : (s.readerTo r).trunk = s.trunk := rfl
@[simp] theorem State.readerTo_filter (r : ReadingUnit) : (s.readerTo r).filter = s.filter := rfl
@[simp] theorem State.readerTo_reader (r : ReadingUnit) : (s.readerTo r).reader = r := rfl
@[simp] theorem State.readerTo_table (r : ReadingUnit) : (s.readerTo r).table = s.table := rfl
@[simp] theorem State.readerTo_curves (r : ReadingUnit) : (s.readerTo r).curves = s.curves := rfl
@[simp] theorem State.readerTo_report (r : ReadingUnit) : (s.readerTo r).report = s.report := rfl
@[simp] theorem State.readerTo_sweep (r : ReadingUnit) : (s.readerTo r).sweep = s.sweep := rfl
@[simp] theorem State.readerTo_mgmt (r : ReadingUnit) : (s.readerTo r).mgmt = s.mgmt := rfl
@[simp] theorem State.readerTo_test (r : ReadingUnit) : (s.readerTo r).test = s.test := rfl
@[simp] theorem State.readerTo_freeCount (r : ReadingUnit) : (s.readerTo r).freeCount = s.freeCount := rfl
@[simp] theorem State.readerTo_pending (r : ReadingUnit) : (s.readerTo r).pending = s.pending := rfl

/-! ### granted -/

@[simp] theorem State.granted_field (r : Requester) : (s.granted r).field = s.field := rfl
@[simp] theorem State.granted_trunk (r : Requester) : (s.granted r).trunk = s.trunk := rfl
@[simp] theorem State.granted_filter (r : Requester) : (s.granted r).filter = s.filter := rfl
@[simp] theorem State.granted_reader (r : Requester) : (s.granted r).reader = s.reader := rfl
@[simp] theorem State.granted_table (r : Requester) : (s.granted r).table = { s.table with lastGrant := r } := rfl
@[simp] theorem State.granted_curves (r : Requester) : (s.granted r).curves = s.curves := rfl
@[simp] theorem State.granted_report (r : Requester) : (s.granted r).report = s.report := rfl
@[simp] theorem State.granted_sweep (r : Requester) : (s.granted r).sweep = s.sweep := rfl
@[simp] theorem State.granted_mgmt (r : Requester) : (s.granted r).mgmt = s.mgmt := rfl
@[simp] theorem State.granted_test (r : Requester) : (s.granted r).test = s.test := rfl
@[simp] theorem State.granted_freeCount (r : Requester) : (s.granted r).freeCount = s.freeCount := rfl
@[simp] theorem State.granted_pending (r : Requester) : (s.granted r).pending = s.pending := rfl

/-! ### sendTrunk -/

@[simp] theorem State.sendTrunk_field (f : Frame) : (s.sendTrunk f).field = s.field := rfl
@[simp] theorem State.sendTrunk_trunk (f : Frame) :
    (s.sendTrunk f).trunk = { s.trunk with tx := some f.octets } := rfl
@[simp] theorem State.sendTrunk_filter (f : Frame) : (s.sendTrunk f).filter = s.filter := rfl
@[simp] theorem State.sendTrunk_reader (f : Frame) : (s.sendTrunk f).reader = s.reader := rfl
@[simp] theorem State.sendTrunk_table (f : Frame) : (s.sendTrunk f).table = s.table := rfl
@[simp] theorem State.sendTrunk_curves (f : Frame) : (s.sendTrunk f).curves = s.curves := rfl
@[simp] theorem State.sendTrunk_report (f : Frame) : (s.sendTrunk f).report = s.report := rfl
@[simp] theorem State.sendTrunk_sweep (f : Frame) : (s.sendTrunk f).sweep = s.sweep := rfl
@[simp] theorem State.sendTrunk_mgmt (f : Frame) : (s.sendTrunk f).mgmt = s.mgmt := rfl
@[simp] theorem State.sendTrunk_test (f : Frame) : (s.sendTrunk f).test = s.test := rfl
@[simp] theorem State.sendTrunk_freeCount (f : Frame) : (s.sendTrunk f).freeCount = s.freeCount := rfl
@[simp] theorem State.sendTrunk_pending (f : Frame) : (s.sendTrunk f).pending = s.pending := rfl

/-! ### sendField -/

@[simp] theorem State.sendField_field (f : Frame) :
    (s.sendField f).field = { s.field with tx := some f.octets } := rfl
@[simp] theorem State.sendField_trunk (f : Frame) : (s.sendField f).trunk = s.trunk := rfl
@[simp] theorem State.sendField_filter (f : Frame) : (s.sendField f).filter = s.filter := rfl
@[simp] theorem State.sendField_reader (f : Frame) : (s.sendField f).reader = s.reader := rfl
@[simp] theorem State.sendField_table (f : Frame) : (s.sendField f).table = s.table := rfl
@[simp] theorem State.sendField_curves (f : Frame) : (s.sendField f).curves = s.curves := rfl
@[simp] theorem State.sendField_report (f : Frame) : (s.sendField f).report = s.report := rfl
@[simp] theorem State.sendField_sweep (f : Frame) : (s.sendField f).sweep = s.sweep := rfl
@[simp] theorem State.sendField_mgmt (f : Frame) : (s.sendField f).mgmt = s.mgmt := rfl
@[simp] theorem State.sendField_test (f : Frame) : (s.sendField f).test = s.test := rfl
@[simp] theorem State.sendField_freeCount (f : Frame) : (s.sendField f).freeCount = s.freeCount := rfl
@[simp] theorem State.sendField_pending (f : Frame) : (s.sendField f).pending = s.pending := rfl

/-! ### grantedClass -/

@[simp] theorem State.grantedClass_field (c : EgressClass) : (s.grantedClass c).field = s.field := rfl
@[simp] theorem State.grantedClass_trunk (c : EgressClass) :
    (s.grantedClass c).trunk = { s.trunk with lastClass := c } := rfl
@[simp] theorem State.grantedClass_filter (c : EgressClass) : (s.grantedClass c).filter = s.filter := rfl
@[simp] theorem State.grantedClass_reader (c : EgressClass) : (s.grantedClass c).reader = s.reader := rfl
@[simp] theorem State.grantedClass_table (c : EgressClass) : (s.grantedClass c).table = s.table := rfl
@[simp] theorem State.grantedClass_curves (c : EgressClass) : (s.grantedClass c).curves = s.curves := rfl
@[simp] theorem State.grantedClass_report (c : EgressClass) : (s.grantedClass c).report = s.report := rfl
@[simp] theorem State.grantedClass_sweep (c : EgressClass) : (s.grantedClass c).sweep = s.sweep := rfl
@[simp] theorem State.grantedClass_mgmt (c : EgressClass) : (s.grantedClass c).mgmt = s.mgmt := rfl
@[simp] theorem State.grantedClass_test (c : EgressClass) : (s.grantedClass c).test = s.test := rfl
@[simp] theorem State.grantedClass_freeCount (c : EgressClass) : (s.grantedClass c).freeCount = s.freeCount := rfl
@[simp] theorem State.grantedClass_pending (c : EgressClass) : (s.grantedClass c).pending = s.pending := rfl

/-! ### grantedChannel -/

@[simp] theorem State.grantedChannel_field (n : Nat) : (s.grantedChannel n).field = s.field := rfl
@[simp] theorem State.grantedChannel_trunk (n : Nat) :
    (s.grantedChannel n).trunk = { s.trunk with lastChannel := n } := rfl
@[simp] theorem State.grantedChannel_filter (n : Nat) : (s.grantedChannel n).filter = s.filter := rfl
@[simp] theorem State.grantedChannel_reader (n : Nat) : (s.grantedChannel n).reader = s.reader := rfl
@[simp] theorem State.grantedChannel_table (n : Nat) : (s.grantedChannel n).table = s.table := rfl
@[simp] theorem State.grantedChannel_curves (n : Nat) : (s.grantedChannel n).curves = s.curves := rfl
@[simp] theorem State.grantedChannel_report (n : Nat) : (s.grantedChannel n).report = s.report := rfl
@[simp] theorem State.grantedChannel_sweep (n : Nat) : (s.grantedChannel n).sweep = s.sweep := rfl
@[simp] theorem State.grantedChannel_mgmt (n : Nat) : (s.grantedChannel n).mgmt = s.mgmt := rfl
@[simp] theorem State.grantedChannel_test (n : Nat) : (s.grantedChannel n).test = s.test := rfl
@[simp] theorem State.grantedChannel_freeCount (n : Nat) : (s.grantedChannel n).freeCount = s.freeCount := rfl
@[simp] theorem State.grantedChannel_pending (n : Nat) : (s.grantedChannel n).pending = s.pending := rfl

/-! ### postChange -/

@[simp] theorem State.postChange_field (old new : FillState) : (s.postChange old new).field = s.field := rfl
@[simp] theorem State.postChange_trunk (old new : FillState) : (s.postChange old new).trunk = s.trunk := rfl
@[simp] theorem State.postChange_filter (old new : FillState) : (s.postChange old new).filter = s.filter := rfl
@[simp] theorem State.postChange_reader (old new : FillState) : (s.postChange old new).reader = s.reader := rfl
@[simp] theorem State.postChange_table (old new : FillState) : (s.postChange old new).table = s.table := rfl
@[simp] theorem State.postChange_curves (old new : FillState) : (s.postChange old new).curves = s.curves := rfl
@[simp] theorem State.postChange_report (old new : FillState) :
    (s.postChange old new).report = s.report.applyChange s.now s.mgmt.params.summaryStep old.contribution new.contribution := rfl
@[simp] theorem State.postChange_sweep (old new : FillState) : (s.postChange old new).sweep = s.sweep := rfl
@[simp] theorem State.postChange_mgmt (old new : FillState) : (s.postChange old new).mgmt = s.mgmt := rfl
@[simp] theorem State.postChange_test (old new : FillState) : (s.postChange old new).test = s.test := rfl
@[simp] theorem State.postChange_freeCount (old new : FillState) :
    (s.postChange old new).freeCount = s.freeCount := rfl
@[simp] theorem State.postChange_pending (old new : FillState) : (s.postChange old new).pending = s.pending := rfl

/-! ### dropReading -/

@[simp] theorem State.dropReading_field (c : Ctr) : (s.dropReading c).field = s.field := rfl
@[simp] theorem State.dropReading_trunk (c : Ctr) : (s.dropReading c).trunk = s.trunk := rfl
@[simp] theorem State.dropReading_filter (c : Ctr) : (s.dropReading c).filter = s.filter := rfl
@[simp] theorem State.dropReading_reader (c : Ctr) : (s.dropReading c).reader = .idle := rfl
@[simp] theorem State.dropReading_table (c : Ctr) : (s.dropReading c).table = s.table := rfl
@[simp] theorem State.dropReading_curves (c : Ctr) : (s.dropReading c).curves = s.curves := rfl
@[simp] theorem State.dropReading_report (c : Ctr) : (s.dropReading c).report = s.report.count c 1 := rfl
@[simp] theorem State.dropReading_sweep (c : Ctr) : (s.dropReading c).sweep = s.sweep := rfl
@[simp] theorem State.dropReading_mgmt (c : Ctr) : (s.dropReading c).mgmt = s.mgmt := rfl
@[simp] theorem State.dropReading_test (c : Ctr) : (s.dropReading c).test = s.test := rfl
@[simp] theorem State.dropReading_freeCount (c : Ctr) : (s.dropReading c).freeCount = s.freeCount := rfl
@[simp] theorem State.dropReading_pending (c : Ctr) : (s.dropReading c).pending = s.pending := rfl

/-! ### answered -/

@[simp] theorem State.answered_field (k : RequestKind) (r : Request) (result : ResultCode) (content : List Octet) :
    (s.answered k r result content).field = s.field := rfl
@[simp] theorem State.answered_trunk (k : RequestKind) (r : Request) (result : ResultCode) (content : List Octet) :
    (s.answered k r result content).trunk = s.trunk := rfl
@[simp] theorem State.answered_filter (k : RequestKind) (r : Request) (result : ResultCode) (content : List Octet) :
    (s.answered k r result content).filter = s.filter := rfl
@[simp] theorem State.answered_reader (k : RequestKind) (r : Request) (result : ResultCode) (content : List Octet) :
    (s.answered k r result content).reader = s.reader := rfl
@[simp] theorem State.answered_table (k : RequestKind) (r : Request) (result : ResultCode) (content : List Octet) :
    (s.answered k r result content).table = s.table := rfl
@[simp] theorem State.answered_curves (k : RequestKind) (r : Request) (result : ResultCode) (content : List Octet) :
    (s.answered k r result content).curves = s.curves := rfl
@[simp] theorem State.answered_report (k : RequestKind) (r : Request) (result : ResultCode) (content : List Octet) :
    (s.answered k r result content).report = s.report := rfl
@[simp] theorem State.answered_sweep (k : RequestKind) (r : Request) (result : ResultCode) (content : List Octet) :
    (s.answered k r result content).sweep = s.sweep := rfl
@[simp] theorem State.answered_test (k : RequestKind) (r : Request) (result : ResultCode) (content : List Octet) :
    (s.answered k r result content).test = s.test := rfl
@[simp] theorem State.answered_freeCount (k : RequestKind) (r : Request) (result : ResultCode) (content : List Octet) :
    (s.answered k r result content).freeCount = s.freeCount := rfl
@[simp] theorem State.answered_pending (k : RequestKind) (r : Request) (result : ResultCode) (content : List Octet) :
    (s.answered k r result content).pending = s.pending := rfl
@[simp] theorem State.answered_mgmt (k : RequestKind) (r : Request) (result : ResultCode) (content : List Octet) :
    (s.answered k r result content).mgmt =
      { s.mgmt with
        reply := some { destination := r.source, tag := r.tag, kind := r.kind, result := result, content := content }
        stage := .idle, newer := .kind k, older := s.mgmt.newer } := rfl

/-! ### notify -/

@[simp] theorem State.notify_field (selection : BitVec 6) (bin : Nat) (kind : Option BinKind) (test : Bool) (g : FillState)
    (k : NoticeKind) : (s.notify selection bin kind test g k).field = s.field := by
  unfold State.notify; split <;> rfl
@[simp] theorem State.notify_trunk (selection : BitVec 6) (bin : Nat) (kind : Option BinKind) (test : Bool) (g : FillState)
    (k : NoticeKind) : (s.notify selection bin kind test g k).trunk = s.trunk := by
  unfold State.notify; split <;> rfl
@[simp] theorem State.notify_filter (selection : BitVec 6) (bin : Nat) (kind : Option BinKind) (test : Bool) (g : FillState)
    (k : NoticeKind) : (s.notify selection bin kind test g k).filter = s.filter := by
  unfold State.notify; split <;> rfl
@[simp] theorem State.notify_reader (selection : BitVec 6) (bin : Nat) (kind : Option BinKind) (test : Bool) (g : FillState)
    (k : NoticeKind) : (s.notify selection bin kind test g k).reader = s.reader := by
  unfold State.notify; split <;> rfl
@[simp] theorem State.notify_table (selection : BitVec 6) (bin : Nat) (kind : Option BinKind) (test : Bool) (g : FillState)
    (k : NoticeKind) : (s.notify selection bin kind test g k).table = s.table := by
  unfold State.notify; split <;> rfl
@[simp] theorem State.notify_curves (selection : BitVec 6) (bin : Nat) (kind : Option BinKind) (test : Bool) (g : FillState)
    (k : NoticeKind) : (s.notify selection bin kind test g k).curves = s.curves := by
  unfold State.notify; split <;> rfl
@[simp] theorem State.notify_sweep (selection : BitVec 6) (bin : Nat) (kind : Option BinKind) (test : Bool) (g : FillState)
    (k : NoticeKind) : (s.notify selection bin kind test g k).sweep = s.sweep := by
  unfold State.notify; split <;> rfl
@[simp] theorem State.notify_mgmt (selection : BitVec 6) (bin : Nat) (kind : Option BinKind) (test : Bool) (g : FillState)
    (k : NoticeKind) : (s.notify selection bin kind test g k).mgmt = s.mgmt := by
  unfold State.notify; split <;> rfl
@[simp] theorem State.notify_test (selection : BitVec 6) (bin : Nat) (kind : Option BinKind) (test : Bool) (g : FillState)
    (k : NoticeKind) : (s.notify selection bin kind test g k).test = s.test := by
  unfold State.notify; split <;> rfl
@[simp] theorem State.notify_freeCount (selection : BitVec 6) (bin : Nat) (kind : Option BinKind) (test : Bool) (g : FillState)
    (k : NoticeKind) : (s.notify selection bin kind test g k).freeCount = s.freeCount := by
  unfold State.notify; split <;> rfl
@[simp] theorem State.notify_pending (selection : BitVec 6) (bin : Nat) (kind : Option BinKind) (test : Bool) (g : FillState)
    (k : NoticeKind) : (s.notify selection bin kind test g k).pending = s.pending := by
  unfold State.notify; split <;> rfl

/-! ### setReceiver -/

@[simp] theorem State.setReceiver_filter (l : Link) (rx : Receiver) : (s.setReceiver l rx).filter = s.filter := by
  cases l <;> rfl
@[simp] theorem State.setReceiver_reader (l : Link) (rx : Receiver) : (s.setReceiver l rx).reader = s.reader := by
  cases l <;> rfl
@[simp] theorem State.setReceiver_table (l : Link) (rx : Receiver) : (s.setReceiver l rx).table = s.table := by
  cases l <;> rfl
@[simp] theorem State.setReceiver_curves (l : Link) (rx : Receiver) : (s.setReceiver l rx).curves = s.curves := by
  cases l <;> rfl
@[simp] theorem State.setReceiver_report (l : Link) (rx : Receiver) : (s.setReceiver l rx).report = s.report := by
  cases l <;> rfl
@[simp] theorem State.setReceiver_sweep (l : Link) (rx : Receiver) : (s.setReceiver l rx).sweep = s.sweep := by
  cases l <;> rfl
@[simp] theorem State.setReceiver_mgmt (l : Link) (rx : Receiver) : (s.setReceiver l rx).mgmt = s.mgmt := by
  cases l <;> rfl
@[simp] theorem State.setReceiver_test (l : Link) (rx : Receiver) : (s.setReceiver l rx).test = s.test := by
  cases l <;> rfl
@[simp] theorem State.setReceiver_freeCount (l : Link) (rx : Receiver) : (s.setReceiver l rx).freeCount = s.freeCount := by
  cases l <;> rfl
@[simp] theorem State.setReceiver_pending (l : Link) (rx : Receiver) : (s.setReceiver l rx).pending = s.pending := by
  cases l <;> rfl
@[simp] theorem State.setReceiver_receiver (l : Link) (rx : Receiver) : (s.setReceiver l rx).receiver l = rx := by
  cases l <;> rfl

/-! ### Derived readings -/

@[simp] theorem State.onReport_now (f : Reporting → Reporting) : (s.onReport f).now = s.now := rfl
@[simp] theorem State.onReport_bin (f : Reporting → Reporting) (m : Nat) : (s.onReport f).bin m = s.bin m := rfl
@[simp] theorem State.onReport_isHeld (f : Reporting → Reporting) (m : Nat) : (s.onReport f).isHeld m = s.isHeld m := rfl
@[simp] theorem State.onMgmt_bin (f : ManagementUnit → ManagementUnit) (m : Nat) : (s.onMgmt f).bin m = s.bin m := rfl
@[simp] theorem State.onMgmt_isHeld (f : ManagementUnit → ManagementUnit) (m : Nat) : (s.onMgmt f).isHeld m = s.isHeld m := rfl
@[simp] theorem State.onSweep_now (f : SweepEngine → SweepEngine) : (s.onSweep f).now = s.now := rfl
@[simp] theorem State.onSweep_bin (f : SweepEngine → SweepEngine) (m : Nat) : (s.onSweep f).bin m = s.bin m := rfl
@[simp] theorem State.onSweep_isHeld (f : SweepEngine → SweepEngine) (m : Nat) : (s.onSweep f).isHeld m = s.isHeld m := rfl
@[simp] theorem State.onFilter_now (f : ArrivalFilter → ArrivalFilter) : (s.onFilter f).now = s.now := rfl
@[simp] theorem State.onFilter_bin (f : ArrivalFilter → ArrivalFilter) (m : Nat) : (s.onFilter f).bin m = s.bin m := rfl
@[simp] theorem State.onFilter_isHeld (f : ArrivalFilter → ArrivalFilter) (m : Nat) : (s.onFilter f).isHeld m = s.isHeld m := rfl
@[simp] theorem State.onTest_now (f : TestGenerator → TestGenerator) : (s.onTest f).now = s.now := rfl
@[simp] theorem State.onTest_bin (f : TestGenerator → TestGenerator) (m : Nat) : (s.onTest f).bin m = s.bin m := rfl
@[simp] theorem State.onTest_isHeld (f : TestGenerator → TestGenerator) (m : Nat) : (s.onTest f).isHeld m = s.isHeld m := rfl
@[simp] theorem State.onConditions_now (f : ConditionUnit → ConditionUnit) : (s.onConditions f).now = s.now := rfl
@[simp] theorem State.onConditions_bin (f : ConditionUnit → ConditionUnit) (m : Nat) : (s.onConditions f).bin m = s.bin m := rfl
@[simp] theorem State.onConditions_isHeld (f : ConditionUnit → ConditionUnit) (m : Nat) : (s.onConditions f).isHeld m = s.isHeld m := rfl
@[simp] theorem State.count_now (c : Ctr) (n : Nat) : (s.count c n).now = s.now := rfl
@[simp] theorem State.count_bin (c : Ctr) (n : Nat) (m : Nat) : (s.count c n).bin m = s.bin m := rfl
@[simp] theorem State.count_isHeld (c : Ctr) (n : Nat) (m : Nat) : (s.count c n).isHeld m = s.isHeld m := rfl
@[simp] theorem State.raise_now (f : Flag) : (s.raise f).now = s.now := rfl
@[simp] theorem State.raise_bin (f : Flag) (m : Nat) : (s.raise f).bin m = s.bin m := rfl
@[simp] theorem State.raise_isHeld (f : Flag) (m : Nat) : (s.raise f).isHeld m = s.isHeld m := rfl
@[simp] theorem State.setBin_now (n : Nat) (b : Bin) : (s.setBin n b).now = s.now := rfl
@[simp] theorem State.setChannel_now (n : Nat) (c : Channel) : (s.setChannel n c).now = s.now := rfl
@[simp] theorem State.setChannel_bin (n : Nat) (c : Channel) (m : Nat) : (s.setChannel n c).bin m = s.bin m := rfl
@[simp] theorem State.setChannel_isHeld (n : Nat) (c : Channel) (m : Nat) : (s.setChannel n c).isHeld m = s.isHeld m := rfl
@[simp] theorem State.readerTo_now (r : ReadingUnit) : (s.readerTo r).now = s.now := rfl
@[simp] theorem State.readerTo_bin (r : ReadingUnit) (m : Nat) : (s.readerTo r).bin m = s.bin m := rfl
@[simp] theorem State.readerTo_isHeld (r : ReadingUnit) (m : Nat) : (s.readerTo r).isHeld m = s.isHeld m := rfl
@[simp] theorem State.granted_now (r : Requester) : (s.granted r).now = s.now := rfl
@[simp] theorem State.sendTrunk_now (f : Frame) : (s.sendTrunk f).now = s.now := rfl
@[simp] theorem State.sendTrunk_bin (f : Frame) (m : Nat) : (s.sendTrunk f).bin m = s.bin m := rfl
@[simp] theorem State.sendTrunk_isHeld (f : Frame) (m : Nat) : (s.sendTrunk f).isHeld m = s.isHeld m := rfl
@[simp] theorem State.sendField_now (f : Frame) : (s.sendField f).now = s.now := rfl
@[simp] theorem State.sendField_bin (f : Frame) (m : Nat) : (s.sendField f).bin m = s.bin m := rfl
@[simp] theorem State.sendField_isHeld (f : Frame) (m : Nat) : (s.sendField f).isHeld m = s.isHeld m := rfl
@[simp] theorem State.grantedClass_now (c : EgressClass) : (s.grantedClass c).now = s.now := rfl
@[simp] theorem State.grantedClass_bin (c : EgressClass) (m : Nat) : (s.grantedClass c).bin m = s.bin m := rfl
@[simp] theorem State.grantedClass_isHeld (c : EgressClass) (m : Nat) : (s.grantedClass c).isHeld m = s.isHeld m := rfl
@[simp] theorem State.grantedChannel_now (n : Nat) : (s.grantedChannel n).now = s.now := rfl
@[simp] theorem State.grantedChannel_bin (n : Nat) (m : Nat) : (s.grantedChannel n).bin m = s.bin m := rfl
@[simp] theorem State.grantedChannel_isHeld (n : Nat) (m : Nat) : (s.grantedChannel n).isHeld m = s.isHeld m := rfl
@[simp] theorem State.postChange_now (old new : FillState) : (s.postChange old new).now = s.now := rfl
@[simp] theorem State.postChange_bin (old new : FillState) (m : Nat) : (s.postChange old new).bin m = s.bin m := rfl
@[simp] theorem State.postChange_isHeld (old new : FillState) (m : Nat) : (s.postChange old new).isHeld m = s.isHeld m := rfl
@[simp] theorem State.dropReading_now (c : Ctr) : (s.dropReading c).now = s.now := rfl
@[simp] theorem State.dropReading_bin (c : Ctr) (m : Nat) : (s.dropReading c).bin m = s.bin m := rfl
@[simp] theorem State.dropReading_isHeld (c : Ctr) (m : Nat) : (s.dropReading c).isHeld m = s.isHeld m := rfl
@[simp] theorem State.granted_bin (r : Requester) (m : Nat) : (s.granted r).bin m = s.bin m := rfl
@[simp] theorem State.granted_isHeld (r : Requester) (m : Nat) : (s.granted r).isHeld m = s.isHeld m := rfl
@[simp] theorem State.setBin_isHeld (n : Nat) (b : Bin) (m : Nat) : (s.setBin n b).isHeld m = s.isHeld m := rfl

end Sys2Proof.Machine
end

