-- ==== Sys2Proof/Laws/Table.lean ====
section
/-! SUPPORT. Numbered stores: reading after writing, and the canonical form that every write keeps. -/

namespace Sys2Proof.Machine

variable {α : Type}

/-! ## Reading after writing -/

theorem Table.get_insert_self (reset value : α) (key : Nat) (t : Table α) :
    Table.get reset key (Table.insert key value t) = value := by
  induction t with
  | nil => simp [Table.insert, Table.get]
  | cons e rest ih =>
    obtain ⟨k, v⟩ := e
    simp only [Table.insert]
    split
    · simp [Table.get]
    · split
      · simp [Table.get]
      · rename_i h
        simp [Table.get, h, ih]

theorem Table.get_insert_other (reset value : α) {key other : Nat} (h : other ≠ key) (t : Table α) :
    Table.get reset other (Table.insert key value t) = Table.get reset other t := by
  induction t with
  | nil => simp [Table.insert, Table.get, Ne.symm h]
  | cons e rest ih =>
    obtain ⟨k, v⟩ := e
    simp only [Table.insert]
    split
    · simp [Table.get, Ne.symm h]
    · split
      · rename_i hk
        subst hk
        simp [Table.get, Ne.symm h]
      · simp only [Table.get, ih]

theorem Table.get_erase_self (reset : α) (key : Nat) (t : Table α) :
    Table.get reset key (Table.erase key t) = reset := by
  induction t with
  | nil => rfl
  | cons e rest ih =>
    obtain ⟨k, v⟩ := e
    by_cases h : k = key
    · simpa [Table.erase, h] using ih
    · simpa [Table.erase, h, Table.get] using ih

theorem Table.get_erase_other (reset : α) {key other : Nat} (h : other ≠ key) (t : Table α) :
    Table.get reset other (Table.erase key t) = Table.get reset other t := by
  induction t with
  | nil => rfl
  | cons e rest ih =>
    obtain ⟨k, v⟩ := e
    by_cases hk : k = key
    · subst hk
      simpa [Table.erase, Table.get, Ne.symm h] using ih
    · have : Table.erase key ((k, v) :: rest) = (k, v) :: Table.erase key rest := by simp [Table.erase, hk]
      simp only [this, Table.get, ih]

/-- What a read finds after a write: the value written, under its own number, and what stood there before under
every other. -/
theorem Table.get_set [DecidableEq α] (reset value : α) (key other : Nat) (t : Table α) :
    Table.get reset other (Table.set reset key value t) = if other = key then value else Table.get reset other t := by
  unfold Table.set
  by_cases h : other = key
  · subst h
    split
    · rename_i hv
      simp [Table.get_erase_self, hv]
    · simp [Table.get_insert_self]
  · split <;> simp [h, Table.get_erase_other, Table.get_insert_other]

@[simp] theorem Table.get_set_self [DecidableEq α] (reset value : α) (key : Nat) (t : Table α) :
    Table.get reset key (Table.set reset key value t) = value := by simp [Table.get_set]

theorem Table.get_set_other [DecidableEq α] (reset value : α) {key other : Nat} (h : other ≠ key) (t : Table α) :
    Table.get reset other (Table.set reset key value t) = Table.get reset other t := by simp [Table.get_set, h]

/-! ## Rising numbers -/

/-- A bound on the first number of a store. -/
theorem Table.rising_some {low : Nat} {t : Table α} (h : Table.rising (some low) t = true) : ∀ e ∈ t, low < e.1 := by
  induction t generalizing low with
  | nil => simp
  | cons e rest ih =>
    obtain ⟨k, v⟩ := e
    simp only [Table.rising, Bool.and_eq_true, decide_eq_true_eq] at h
    intro e he
    rcases List.mem_cons.1 he with rfl | he
    · exact h.1
    · exact Nat.lt_trans h.1 (ih h.2 e he)

theorem Table.rising_cons {bound : Option Nat} {e : Nat × α} {rest : Table α}
    (h : Table.rising bound (e :: rest) = true) : Table.rising (some e.1) rest = true := by
  cases bound with
  | none => simpa [Table.rising] using h
  | some low =>
    simp only [Table.rising, Bool.and_eq_true] at h
    exact h.2

/-- A bound below a bound. -/
theorem Table.rising_weaken {low : Nat} {t : Table α} (h : Table.rising (some low) t = true) (bound : Option Nat)
    (hb : ∀ b, bound = some b → b ≤ low) : Table.rising bound t = true := by
  cases t with
  | nil => cases bound <;> rfl
  | cons e rest =>
    simp only [Table.rising, Bool.and_eq_true, decide_eq_true_eq] at h
    cases bound with
    | none => simpa [Table.rising] using h.2
    | some b =>
      have := hb b rfl
      simp only [Table.rising, Bool.and_eq_true, decide_eq_true_eq]
      exact ⟨by omega, h.2⟩

/-- Dropping entries and changing values keep the numbers rising. -/
theorem Table.rising_filter (p : Nat × α → Bool) {bound : Option Nat} {t : Table α}
    (h : Table.rising bound t = true) : Table.rising bound (t.filter p) = true := by
  induction t generalizing bound with
  | nil => exact h
  | cons e rest ih =>
    have hr := Table.rising_cons h
    by_cases hp : p e = true
    · rw [List.filter_cons_of_pos hp]
      cases bound with
      | none => simpa [Table.rising] using ih hr
      | some low =>
        simp only [Table.rising, Bool.and_eq_true, decide_eq_true_eq] at h ⊢
        exact ⟨h.1, ih hr⟩
    · rw [List.filter_cons_of_neg hp]
      apply Table.rising_weaken (ih hr)
      intro b hb
      subst hb
      simp only [Table.rising, Bool.and_eq_true, decide_eq_true_eq] at h
      omega

theorem Table.rising_map (f : Nat × α → α) {bound : Option Nat} {t : Table α} (h : Table.rising bound t = true) :
    Table.rising bound (t.map fun e => (e.1, f e)) = true := by
  induction t generalizing bound with
  | nil => exact h
  | cons e rest ih =>
    have hr := ih (Table.rising_cons h)
    cases bound with
    | none => simpa [Table.rising] using hr
    | some low =>
      simp only [Table.rising, Bool.and_eq_true, decide_eq_true_eq] at h
      simp only [List.map_cons, Table.rising, Bool.and_eq_true, decide_eq_true_eq]
      exact ⟨h.1, hr⟩

theorem Table.rising_insert (key : Nat) (value : α) {bound : Option Nat} {t : Table α}
    (h : Table.rising bound t = true) (hb : ∀ b, bound = some b → b < key) :
    Table.rising bound (Table.insert key value t) = true := by
  induction t generalizing bound with
  | nil => cases bound with
    | none => rfl
    | some b => simpa [Table.insert, Table.rising] using hb b rfl
  | cons e rest ih =>
    obtain ⟨k, v⟩ := e
    have hr := Table.rising_cons h
    simp only [Table.insert]
    split
    · rename_i hk
      cases bound with
      | none => simpa [Table.rising, hk] using hr
      | some b => simpa [Table.rising, hk, hb b rfl] using hr
    · split
      · rename_i hk
        subst hk
        cases bound with
        | none => simpa [Table.rising] using hr
        | some b => simpa [Table.rising, hb b rfl] using hr
      · rename_i h1 h2
        have := ih hr (fun b hb => by cases hb; omega)
        cases bound with
        | none => simpa [Table.rising] using this
        | some b =>
          simp only [Table.rising, Bool.and_eq_true, decide_eq_true_eq] at h ⊢
          exact ⟨h.1, this⟩

/-! ## The canonical form -/

theorem Table.mem_insert {key : Nat} {value : α} {t : Table α} {e : Nat × α} (h : e ∈ Table.insert key value t) :
    e = (key, value) ∨ e ∈ t := by
  induction t with
  | nil => simpa [Table.insert] using h
  | cons a rest ih =>
    obtain ⟨k, v⟩ := a
    simp only [Table.insert] at h
    split at h
    · simpa using h
    · split at h
      · rcases List.mem_cons.1 h with rfl | h
        · exact .inl rfl
        · exact .inr (List.mem_cons_of_mem _ h)
      · rcases List.mem_cons.1 h with rfl | h
        · exact .inr (List.mem_cons_self ..)
        · exact (ih h).imp_right (List.mem_cons_of_mem _)

/-- Every entry of a store after a write is the one written or stood there before. -/
theorem Table.mem_set [DecidableEq α] {reset value : α} {key : Nat} {t : Table α} {e : Nat × α}
    (h : e ∈ Table.set reset key value t) : e = (key, value) ∨ e ∈ t := by
  unfold Table.set at h
  split at h
  · exact .inr ((List.mem_filter.1 h).1)
  · exact Table.mem_insert h

/-- A read finds the reset entry or a listed one. -/
theorem Table.get_mem (reset : α) (key : Nat) (t : Table α) :
    Table.get reset key t = reset ∨ (key, Table.get reset key t) ∈ t := by
  induction t with
  | nil => exact .inl rfl
  | cons e rest ih =>
    obtain ⟨k, v⟩ := e
    by_cases h : k = key
    · subst h
      simp [Table.get]
    · simpa [Table.get, h] using ih.imp_right .inr

theorem Table.rising_set [DecidableEq α] (reset value : α) (key : Nat) {t : Table α}
    (h : Table.rising none t = true) : Table.rising none (Table.set reset key value t) = true := by
  unfold Table.set
  split
  · exact Table.rising_filter _ h
  · exact Table.rising_insert key value h (by simp)

theorem Table.rising_erase (key : Nat) {t : Table α} (h : Table.rising none t = true) :
    Table.rising none (Table.erase key t) = true := Table.rising_filter _ h

theorem Table.rising_mapEntries [DecidableEq α] (reset : α) (f : α → α) {t : Table α}
    (h : Table.rising none t = true) : Table.rising none (Table.mapEntries reset f t) = true :=
  Table.rising_filter _ (Table.rising_map _ h)

theorem Table.wf_iff [DecidableEq α] (reset : α) (t : Table α) :
    Table.wf reset t = true ↔ Table.rising none t = true ∧ ∀ e ∈ t, e.2 ≠ reset := by
  simp [Table.wf, List.all_eq_true]

/-- Every write keeps the canonical form. -/
theorem Table.wf_set [DecidableEq α] (reset value : α) (key : Nat) {t : Table α} (h : Table.wf reset t = true) :
    Table.wf reset (Table.set reset key value t) = true := by
  rw [Table.wf_iff] at h ⊢
  refine ⟨Table.rising_set reset value key h.1, fun e he => ?_⟩
  unfold Table.set at he
  split at he
  · exact h.2 e (List.mem_filter.1 he).1
  · rename_i hv
    rcases Table.mem_insert he with rfl | he
    · exact hv
    · exact h.2 e he

/-- Changing every entry keeps the canonical form. -/
theorem Table.wf_mapEntries [DecidableEq α] (reset : α) (f : α → α) {t : Table α} (h : Table.rising none t = true) :
    Table.wf reset (Table.mapEntries reset f t) = true := by
  rw [Table.wf_iff]
  refine ⟨Table.rising_mapEntries reset f h, fun e he => ?_⟩
  simpa using (List.mem_filter.1 he).2

theorem Table.get_of_rising_some (reset : α) {low key : Nat} {t : Table α} (h : Table.rising (some low) t = true)
    (hk : key ≤ low) : Table.get reset key t = reset := by
  rcases Table.get_mem reset key t with h0 | h0
  · exact h0
  · have := Table.rising_some h _ h0
    omega

/-- What a read finds after every entry is changed by a function that leaves the reset entry as it is. -/
theorem Table.get_mapEntries [DecidableEq α] (reset : α) (f : α → α) (hf : f reset = reset) (key : Nat) {t : Table α}
    (h : Table.rising none t = true) :
    Table.get reset key (Table.mapEntries reset f t) = f (Table.get reset key t) := by
  unfold Table.mapEntries
  have go : ∀ (bound : Option Nat), Table.rising bound t = true →
      Table.get reset key ((t.map fun e => (e.1, f e.2)).filter fun e => e.2 ≠ reset) = f (Table.get reset key t) := by
    clear h
    induction t with
    | nil => intro _ _; simpa [Table.get] using hf.symm
    | cons e rest ih =>
      obtain ⟨k, v⟩ := e
      intro bound h
      have hr := Table.rising_cons h
      have ih := ih _ hr
      by_cases hv : f v = reset
      · rw [List.map_cons, List.filter_cons_of_neg (by simpa using hv), ih]
        by_cases hk : k = key
        · subst hk
          have := Table.get_of_rising_some reset hr (Nat.le_refl _)
          simp [Table.get, this, hf, hv]
        · simp [Table.get, hk]
      · rw [List.map_cons, List.filter_cons_of_pos (by simpa using hv)]
        by_cases hk : k = key
        · simp [Table.get, hk]
        · simpa [Table.get, hk] using ih
  exact go none h

/-- Writing what a canonical store already holds changes nothing. -/
theorem Table.set_get [DecidableEq α] (reset : α) (key : Nat) {t : Table α} (h : Table.wf reset t = true) :
    Table.set reset key (Table.get reset key t) t = t := by
  rw [Table.wf_iff] at h
  obtain ⟨hr, hn⟩ := h
  have go : ∀ (bound : Option Nat) (t : Table α), Table.rising bound t = true → (∀ e ∈ t, e.2 ≠ reset) →
      Table.set reset key (Table.get reset key t) t = t := by
    intro bound t
    induction t generalizing bound with
    | nil => intro _ _; simp [Table.get, Table.set, Table.erase]
    | cons e rest ih =>
      obtain ⟨k, v⟩ := e
      intro h hn
      have hr := Table.rising_cons h
      have hv : v ≠ reset := hn _ (List.mem_cons_self ..)
      have ih := ih _ hr fun e he => hn e (List.mem_cons_of_mem _ he)
      by_cases hk : k = key
      · subst hk
        simp [Table.get, Table.set, hv, Table.insert]
      · simp only [Table.get, hk, if_false]
        unfold Table.set at ih ⊢
        split
        · rename_i hg
          simp only [hg, if_true] at ih
          have : Table.erase key ((k, v) :: rest) = (k, v) :: Table.erase key rest := by simp [Table.erase, hk]
          rw [this, ih]
        · rename_i hg
          simp only [hg, if_false] at ih
          have hlt : ¬ key < k := fun hlt => hg (Table.get_of_rising_some reset hr (Nat.le_of_lt hlt))
          simp only [Table.insert, hlt, hk, if_false, ih]
  exact go none t hr hn

end Sys2Proof.Machine
end

