-- ==== Sys2Proof/Laws/Ops.lean ====
section
/-! SUPPORT. What each shared operation does, once: stores, sets, counters and flags, accesses to bins and curve slots,
contribution changes and offers, requests and replies. -/

namespace Sys2Proof.Machine

/-! ## Sets held as bits -/

theorem Bits.has_put {n : Nat} (i j : Nat) (v : BitVec n) :
    Bits.has j (Bits.put i v) = (Bits.has j v || (decide (j = i) && decide (j < n))) := by
  simp only [Bits.has, Bits.put, BitVec.getLsbD_or, BitVec.getLsbD_twoPow]
  by_cases h : j = i
  · subst h; simp
  · have h' : ¬i = j := fun e => h e.symm
    simp [h, h']

theorem Bits.has_drop {n : Nat} (i j : Nat) (v : BitVec n) :
    Bits.has j (Bits.drop i v) = (Bits.has j v && !decide (j = i)) := by
  simp only [Bits.has, Bits.drop, BitVec.getLsbD_and, BitVec.getLsbD_not, BitVec.getLsbD_twoPow]
  by_cases h : j = i
  · subst h; by_cases hn : j < n <;> simp [hn]
  · have h' : ¬i = j := fun e => h e.symm
    by_cases hn : j < n
    · simp [h, h', hn]
    · simp [h, hn, BitVec.getLsbD_of_ge v j (Nat.le_of_not_lt hn)]

theorem Bits.has_of_le {n i : Nat} (h : n ≤ i) (v : BitVec n) : Bits.has i v = false :=
  BitVec.getLsbD_of_ge v i h

theorem Bits.mem_members {n : Nat} (v : BitVec n) (i : Nat) : i ∈ Bits.members v ↔ Bits.has i v = true := by
  simp only [Bits.members, List.mem_filter, List.mem_range]
  exact ⟨fun h => h.2, fun h => ⟨Nat.lt_of_not_le fun hn => by simp [Bits.has_of_le hn] at h, h⟩⟩

theorem Bits.nodup_members {n : Nat} (v : BitVec n) : (Bits.members v).Nodup := List.nodup_range.filter _

/-! ## Readings past a notice -/

@[simp] theorem State.notify_bin (s : State) (selection : BitVec 6) (bin : Nat) (kind : Option BinKind) (test : Bool)
    (g : FillState) (k : NoticeKind) (m : Nat) : (s.notify selection bin kind test g k).bin m = s.bin m := by
  unfold State.bin; rw [State.notify_table]

/-! ## Writing a numbered store and reading it back -/

theorem State.setBin_bin (s : State) (n m : Nat) (b : Bin) :
    (s.setBin n b).bin m = if m = n then b else s.bin m := Table.get_set _ _ _ _ _

@[simp] theorem State.setBin_bin_self (s : State) (n : Nat) (b : Bin) : (s.setBin n b).bin n = b :=
  Table.get_set_self _ _ _ _

theorem State.setBin_bin_other (s : State) {n m : Nat} (h : m ≠ n) (b : Bin) : (s.setBin n b).bin m = s.bin m :=
  Table.get_set_other _ _ h _

/-- Writing a bin as it is changes nothing of a canonical store. -/
theorem State.setBin_self {s : State} (h : Table.wf Bin.reset s.table.bins = true) (n : Nat) :
    s.setBin n (s.bin n) = s := by
  unfold State.setBin State.bin
  rw [Table.set_get _ _ h]

theorem CurveStore.setSlot_slot (c : CurveStore) (bank other : Bank) (n m : Nat) (v : Slot) :
    (c.setSlot bank n v).slot other m = if other = bank ∧ m = n then v else c.slot other m := by
  cases bank <;> cases other <;>
    simp [CurveStore.setSlot, CurveStore.slot, CurveStore.bank, Table.get_set]

@[simp] theorem CurveStore.setSlot_active (c : CurveStore) (bank : Bank) (n : Nat) (v : Slot) :
    (c.setSlot bank n v).active = c.active := by
  cases bank <;> rfl

theorem Reporting.setTally_tally (r : Reporting) (z y : Nat) (t : Tally) :
    (r.setTally z t).tally y = if y = z then t else r.tally y := Table.get_set _ _ _ _ _

theorem Reporting.setChannel_channel (r : Reporting) (n m : Nat) (c : Channel) :
    (r.setChannel n c).channel m = if m = n then c else r.channel m := Table.get_set _ _ _ _ _

@[simp] theorem Reporting.setChannel_channel_self (r : Reporting) (n : Nat) (c : Channel) :
    (r.setChannel n c).channel n = c := Table.get_set_self _ _ _ _

theorem Reporting.setChannel_self {r : Reporting} (h : Table.wf Channel.reset r.channels = true) (n : Nat) :
    r.setChannel n (r.channel n) = r := by
  unfold Reporting.setChannel Reporting.channel
  rw [Table.set_get _ _ h]

@[simp] theorem Reporting.setChannel_zones (r : Reporting) (n : Nat) (c : Channel) : (r.setChannel n c).zones = r.zones := rfl
@[simp] theorem Reporting.setChannel_boundary (r : Reporting) (n : Nat) (c : Channel) :
    (r.setChannel n c).boundary = r.boundary := rfl
@[simp] theorem Reporting.setChannel_conditions (r : Reporting) (n : Nat) (c : Channel) :
    (r.setChannel n c).conditions = r.conditions := rfl
@[simp] theorem Reporting.setTally_channels (r : Reporting) (z : Nat) (t : Tally) :
    (r.setTally z t).channels = r.channels := rfl
@[simp] theorem Reporting.setTally_boundary (r : Reporting) (z : Nat) (t : Tally) :
    (r.setTally z t).boundary = r.boundary := rfl
@[simp] theorem Reporting.setTally_conditions (r : Reporting) (z : Nat) (t : Tally) :
    (r.setTally z t).conditions = r.conditions := rfl
@[simp] theorem Reporting.count_zones (r : Reporting) (c : Ctr) (n : Nat) : (r.count c n).zones = r.zones := rfl
@[simp] theorem Reporting.count_channels (r : Reporting) (c : Ctr) (n : Nat) : (r.count c n).channels = r.channels := rfl
@[simp] theorem Reporting.count_boundary (r : Reporting) (c : Ctr) (n : Nat) : (r.count c n).boundary = r.boundary := rfl
@[simp] theorem Reporting.count_conditions (r : Reporting) (c : Ctr) (n : Nat) :
    (r.count c n).conditions = r.conditions.count c n := rfl
@[simp] theorem Reporting.raise_zones (r : Reporting) (f : Flag) : (r.raise f).zones = r.zones := rfl
@[simp] theorem Reporting.raise_channels (r : Reporting) (f : Flag) : (r.raise f).channels = r.channels := rfl
@[simp] theorem Reporting.raise_boundary (r : Reporting) (f : Flag) : (r.raise f).boundary = r.boundary := rfl
@[simp] theorem Reporting.raise_conditions (r : Reporting) (f : Flag) :
    (r.raise f).conditions = r.conditions.raise f := rfl

@[simp] theorem Reporting.raise_channel (r : Reporting) (f : Flag) (n : Nat) : (r.raise f).channel n = r.channel n := rfl
@[simp] theorem Reporting.count_channel (r : Reporting) (c : Ctr) (k n : Nat) : (r.count c k).channel n = r.channel n := rfl
@[simp] theorem Reporting.setTally_channel (r : Reporting) (z : Nat) (t : Tally) (n : Nat) :
    (r.setTally z t).channel n = r.channel n := rfl
@[simp] theorem Reporting.raise_tally (r : Reporting) (f : Flag) (z : Nat) : (r.raise f).tally z = r.tally z := rfl
@[simp] theorem Reporting.count_tally (r : Reporting) (c : Ctr) (k z : Nat) : (r.count c k).tally z = r.tally z := rfl
@[simp] theorem Reporting.setChannel_tally (r : Reporting) (n : Nat) (c : Channel) (z : Nat) :
    (r.setChannel n c).tally z = r.tally z := rfl

/-! ## Counters and flags -/

theorem Ctr.index_inj {c d : Ctr} (h : c.index = d.index) : c = d := by
  cases c <;> cases d <;> first | rfl | (simp [Ctr.index] at h)

theorem Flag.index_inj {f g : Flag} (h : f.index = g.index) : f = g := by
  cases f <;> cases g <;> first | rfl | (simp [Flag.index] at h)

theorem Flag.index_lt (f : Flag) : f.index < 12 := by cases f <;> decide

/-- Counting changes its own counter alone. -/
theorem ConditionUnit.count_counter (u : ConditionUnit) (c d : Ctr) (n : Nat) :
    (u.count c n).counter d.index = if d = c then (u.counter d.index).rise n else u.counter d.index := by
  simp only [ConditionUnit.count, ConditionUnit.counter, Table.get_set]
  by_cases h : d = c
  · subst h; simp
  · rw [if_neg (fun e => h (Ctr.index_inj e)), if_neg h]

theorem State.count_counter (s : State) (c d : Ctr) (n : Nat) :
    (s.count c n).counter d = if d = c then (s.counter d).rise n else s.counter d :=
  ConditionUnit.count_counter _ _ _ _

theorem ConditionUnit.gain_eq (u : ConditionUnit) :
    u.gain =
      { u with
        noticeWaiting := u.noticeWaiting || (u.address.isSome && u.holdoff.isNone)
        gainInHoldoff := u.gainInHoldoff || (u.address.isSome && !u.noticeWaiting && u.holdoff.isSome) } := by
  rcases u with ⟨raised, enabled, address, noticeWaiting, holdoff, gainInHoldoff, lastSent, counters, snapshotTime⟩
  cases address <;> cases noticeWaiting <;> cases holdoff <;> simp [ConditionUnit.gain]

/-- Everything that raising a flag can do. -/
theorem ConditionUnit.raise_cases (u : ConditionUnit) (f : Flag) :
    (Bits.has f.index u.raised = true ∧ u.raise f = u)
      ∨ (Bits.has f.index u.raised = false ∧ Bits.has f.index u.enabled = false
          ∧ u.raise f = { u with raised := Bits.put f.index u.raised })
      ∨ (Bits.has f.index u.raised = false ∧ Bits.has f.index u.enabled = true
          ∧ u.raise f = ({ u with raised := Bits.put f.index u.raised }).gain) := by
  unfold ConditionUnit.raise
  by_cases h : Bits.has f.index u.raised = true
  · simp [h]
  · by_cases e : Bits.has f.index u.enabled = true
    · simp [h, e]
    · simp [h, e]

@[simp] theorem ConditionUnit.gain_raised (u : ConditionUnit) : u.gain.raised = u.raised := by rw [gain_eq]
@[simp] theorem ConditionUnit.gain_enabled (u : ConditionUnit) : u.gain.enabled = u.enabled := by rw [gain_eq]
@[simp] theorem ConditionUnit.gain_address (u : ConditionUnit) : u.gain.address = u.address := by rw [gain_eq]
@[simp] theorem ConditionUnit.gain_holdoff (u : ConditionUnit) : u.gain.holdoff = u.holdoff := by rw [gain_eq]
@[simp] theorem ConditionUnit.gain_lastSent (u : ConditionUnit) : u.gain.lastSent = u.lastSent := by rw [gain_eq]
@[simp] theorem ConditionUnit.gain_counters (u : ConditionUnit) : u.gain.counters = u.counters := by rw [gain_eq]
@[simp] theorem ConditionUnit.gain_snapshotTime (u : ConditionUnit) : u.gain.snapshotTime = u.snapshotTime := by
  rw [gain_eq]

/-- A raised flag stands raised; every other flag stays. -/
theorem ConditionUnit.raise_raised (u : ConditionUnit) (f g : Flag) :
    Bits.has g.index (u.raise f).raised = (g == f || Bits.has g.index u.raised) := by
  have hput : Bits.has g.index (Bits.put f.index u.raised) = (g == f || Bits.has g.index u.raised) := by
    rw [Bits.has_put]
    by_cases h : g = f
    · subst h; simp [Flag.index_lt]
    · have : g.index ≠ f.index := fun e => h (Flag.index_inj e)
      have hb : (g == f) = false := by simpa using h
      simp [this, hb]
  rcases u.raise_cases f with ⟨h, e⟩ | ⟨_, _, e⟩ | ⟨_, _, e⟩
  · rw [e]
    by_cases hg : g = f
    · subst hg; simp [h]
    · have hb : (g == f) = false := by simpa using hg
      simp [hb]
  · rw [e]; exact hput
  · rw [e, gain_raised]; exact hput

@[simp] theorem ConditionUnit.raise_enabled (u : ConditionUnit) (f : Flag) : (u.raise f).enabled = u.enabled := by
  rcases u.raise_cases f with ⟨_, e⟩ | ⟨_, _, e⟩ | ⟨_, _, e⟩ <;> simp [e]
@[simp] theorem ConditionUnit.raise_address (u : ConditionUnit) (f : Flag) : (u.raise f).address = u.address := by
  rcases u.raise_cases f with ⟨_, e⟩ | ⟨_, _, e⟩ | ⟨_, _, e⟩ <;> simp [e]
@[simp] theorem ConditionUnit.raise_holdoff (u : ConditionUnit) (f : Flag) : (u.raise f).holdoff = u.holdoff := by
  rcases u.raise_cases f with ⟨_, e⟩ | ⟨_, _, e⟩ | ⟨_, _, e⟩ <;> simp [e]
@[simp] theorem ConditionUnit.raise_lastSent (u : ConditionUnit) (f : Flag) : (u.raise f).lastSent = u.lastSent := by
  rcases u.raise_cases f with ⟨_, e⟩ | ⟨_, _, e⟩ | ⟨_, _, e⟩ <;> simp [e]
@[simp] theorem ConditionUnit.raise_counters (u : ConditionUnit) (f : Flag) : (u.raise f).counters = u.counters := by
  rcases u.raise_cases f with ⟨_, e⟩ | ⟨_, _, e⟩ | ⟨_, _, e⟩ <;> simp [e]
@[simp] theorem ConditionUnit.raise_snapshotTime (u : ConditionUnit) (f : Flag) :
    (u.raise f).snapshotTime = u.snapshotTime := by
  rcases u.raise_cases f with ⟨_, e⟩ | ⟨_, _, e⟩ | ⟨_, _, e⟩ <;> simp [e]
@[simp] theorem ConditionUnit.raise_counter (u : ConditionUnit) (f : Flag) (i : Nat) :
    (u.raise f).counter i = u.counter i := by simp [ConditionUnit.counter]

@[simp] theorem State.raise_counter (s : State) (f : Flag) (c : Ctr) : (s.raise f).counter c = s.counter c := by
  simp [State.counter]

/-- Raising a flag that stands raised again changes nothing. -/
theorem ConditionUnit.raise_twice (u : ConditionUnit) (f : Flag) : (u.raise f).raise f = u.raise f := by
  rcases (u.raise f).raise_cases f with ⟨_, e⟩ | ⟨h, _, _⟩ | ⟨h, _, _⟩
  · exact e
  · simp [raise_raised] at h
  · simp [raise_raised] at h

/-! ## Taking and parking readings -/

/-- The Reading Unit may take a reading, as far as the head entry goes, while a retirement is under way or the head
entry is not due (R42, R56). -/
theorem ArrivalFilter.headWaits_eq_false (f : ArrivalFilter) :
    f.headWaits = false ↔ f.retiring ≠ none ∨ ∀ e, f.entries.head? = some e → e.due = false := by
  obtain ⟨entries, retiring⟩ := f
  cases retiring <;> cases entries <;> simp [ArrivalFilter.headWaits]

/-- The first arrival time that a reading is parked with (R15, R16). -/
theorem Taken.parkTime_eq (now : Nat) (t : Taken) :
    t.parkTime now = if t.source = .arrivals then now else t.arrival := by
  unfold Taken.parkTime
  cases t.source <;> rfl

@[simp] theorem BinTable.parked_park (now : Nat) (t : Taken) (b : BinTable) :
    (b.parked now t).park = b.park ++ [{ reading := t.reading, arrival := t.parkTime now, released := false }] := rfl
@[simp] theorem BinTable.parked_bins (now : Nat) (t : Taken) (b : BinTable) : (b.parked now t).bins = b.bins := rfl
@[simp] theorem BinTable.parked_held (now : Nat) (t : Taken) (b : BinTable) : (b.parked now t).held = b.held := rfl

/-! ## Accesses to a bin (R6 to R8) -/

/-- An access other than a fill write finds damage exactly where two bits or more are in error. -/
theorem State.finding_damaged (s : State) {kind : AccessKind} (hk : kind ≠ .write) (n : Nat) (w : Wear) :
    s.finding kind n w = .damaged ↔ 2 ≤ worn w (s.bin n).badBits := by
  unfold State.finding Bin.finding State.wornBin
  repeat' split
  all_goals simp_all
  all_goals omega

/-- A fill write finds damage exactly where its repair does. -/
theorem State.finding_write_damaged (s : State) (n : Nat) (w : Wear) :
    s.finding .write n w = .damaged ↔ (s.bin n).repair = true ∧ 2 ≤ worn w (s.bin n).badBits := by
  unfold State.finding Bin.finding State.wornBin
  repeat' split
  all_goals simp_all

/-- A record read or a load grant over a readable record. -/
theorem State.access_readable (s : State) (r : Requester) {kind : AccessKind} (hk : kind ≠ .write) (test : Bool)
    (n : Nat) {w : Wear} (h : worn w (s.bin n).badBits ≤ 1) :
    (s.granted r).access kind test n w = s.readThrough r n w := by
  unfold State.access State.finding State.readThrough State.wornBin Bin.tested Bin.finding
  have e : (s.granted r).bin n = s.bin n := rfl
  rw [e]
  generalize s.bin n = b at h ⊢
  obtain ⟨record, generation, repair, badBits, fill⟩ := b
  rcases (show worn w badBits = 0 ∨ worn w badBits = 1 from (by simp only at h; omega)) with h0 | h0 <;>
    cases repair <;> simp [h0, hk, State.granted]

/-- A fill write that finds no damage. -/
theorem State.access_writable (s : State) (r : Requester) (test : Bool) (n : Nat) {w : Wear}
    (h : ¬((s.bin n).repair = true ∧ 2 ≤ worn w (s.bin n).badBits)) :
    (s.granted r).access .write test n w = s.writeThrough r n w := by
  unfold State.access State.finding State.writeThrough State.writtenBin State.wornBin Bin.tested Bin.finding
  have e : (s.granted r).bin n = s.bin n := rfl
  rw [e]
  rcases hb : (s.bin n).repair with _ | _
  · simp [hb, State.granted]
  · have h2 : ¬2 ≤ worn w (s.bin n).badBits := fun g => h ⟨hb, g⟩
    simp [hb, h2, State.granted]

/-- An access that finds damage, other than a load grant. -/
theorem State.access_damaged (s : State) (r : Requester) {kind : AccessKind} (hk : kind ≠ .load) (test : Bool)
    (n : Nat) {w : Wear} (h : s.finding kind n w = .damaged) :
    (s.granted r).access kind test n w = s.foundDamaged r test n w := by
  have ht : (s.wornBin n w).tested kind =
      { s.bin n with repair := false, badBits := worn w (s.bin n).badBits } := by
    unfold State.finding Bin.finding at h
    unfold Bin.tested Bin.finding
    revert h
    repeat' split
    all_goals simp_all [State.wornBin]
  have hf : (s.granted r).finding kind n w = .damaged := h
  have hw : (s.granted r).wornBin n w = s.wornBin n w := rfl
  unfold State.access State.foundDamaged
  rw [hf, hw, ht]
  simp only [hk, if_false, State.enterFault, State.raise_bin, State.count_bin, State.setBin_bin_self]
  rfl

/-- Everything that an access can do to the bin it reaches. -/
theorem State.access_bin (s : State) (kind : AccessKind) (test : Bool) (n : Nat) (w : Wear) :
    (s.access kind test n w).bin n =
      { (s.wornBin n w).tested kind with
        fill :=
          if s.finding kind n w = .damaged ∧ kind ≠ .load ∧ (s.bin n).fill.service = .active then
            (s.bin n).fill.faulted
          else (s.bin n).fill } := by
  have hfill : ((s.wornBin n w).tested kind).fill = (s.bin n).fill := by
    unfold Bin.tested State.wornBin
    repeat (first | split | rfl)
  have heta : ∀ b : Bin, { b with fill := b.fill } = b := fun _ => rfl
  unfold State.access
  cases hf : s.finding kind n w with
  | good => simp [← hfill]
  | corrected => simp [← hfill]
  | damaged =>
    by_cases hk : kind = .load
    · simp [hk, ← hfill]
    · have hu : (((s.setBin n ((s.wornBin n w).tested kind)).count .recordDamage 1).raise .eccDamage).bin n
          = (s.wornBin n w).tested kind := State.setBin_bin_self _ _ _
      simp only [hk, if_false, State.enterFault, hu, hfill]
      by_cases ha : (s.bin n).fill.service = .active
      · rw [if_pos ha, if_pos ⟨trivial, hk, ha⟩, State.notify_bin, State.postChange_bin, State.setBin_bin_self]
      · rw [if_neg ha, if_neg (fun h => ha h.2.2), hu, ← hfill]

/-- An access leaves every other bin as it was. -/
theorem State.access_bin_other (s : State) (kind : AccessKind) (test : Bool) {n m : Nat} (h : m ≠ n) (w : Wear) :
    (s.access kind test n w).bin m = s.bin m := by
  have hset : ∀ (u : State) (b : Bin), (u.setBin n b).bin m = u.bin m := fun u b => State.setBin_bin_other u h b
  unfold State.access
  cases s.finding kind n w with
  | good => simp [hset]
  | corrected => simp [hset]
  | damaged =>
    by_cases hk : kind = .load
    · simp [hk, hset]
    · simp only [hk, if_false, State.enterFault]
      split
      · rw [State.notify_bin, State.postChange_bin, hset, State.raise_bin, State.count_bin, hset]
      · simp [hset]

/-! ## Requests and replies (chapter 10) -/

theorem RequestKind.ofCode_code (k : RequestKind) : RequestKind.ofCode k.code = some k := by cases k <;> decide

/-- The reply to the head request, once its kind is known. -/
theorem State.reply_eq_answered {s : State} {r : Request} {k : RequestKind} (hq : s.mgmt.queue.head? = some r)
    (hk : r.kind = k.code) (result : ResultCode) (content : List Octet) :
    s.reply result content = s.answered k r result content := by
  unfold State.reply
  cases hs : s.mgmt.queue with
  | nil => simp [hs] at hq
  | cons a rest =>
    rw [hs, List.head?_cons, Option.some.injEq] at hq
    subst hq
    simp [State.answered, State.onMgmt, historyOf, hk, RequestKind.ofCode_code]

/-- A request of the right length is served by its rule. -/
theorem State.serve_of_offers {s : State} {r : Request} {k : RequestKind} (h : s.offers k r) (bare : List Octet)
    (rule : List Octet → State → State) : s.serve k bare rule = rule r.args s := by
  obtain ⟨hi, hr, hq, hk, hl⟩ := h
  simp [State.serve, State.takeable, hi, hr, hq, hk, RequestKind.ofCode_code, ← hl]

/-- A request of another length is answered BAD-REQUEST. -/
theorem State.serve_wrong_length {s : State} {r : Request} {k : RequestKind} (hi : s.mgmt.stage = .idle)
    (hr : s.mgmt.reply = none) (hq : s.mgmt.queue.head? = some r) (hk : r.kind = k.code)
    (hl : r.args.length ≠ k.argLength r.args) (bare : List Octet) (rule : List Octet → State → State) :
    s.serve k bare rule = s.answered k r .badRequest bare := by
  rw [← State.reply_eq_answered hq hk]
  simp [State.serve, State.takeable, hi, hr, hq, hk, RequestKind.ofCode_code, hl]

/-- Without a request to take, serving changes nothing. -/
theorem State.serve_none {s : State} (h : s.takeable = none) (k : RequestKind) (bare : List Octet)
    (rule : List Octet → State → State) : s.serve k bare rule = s := by
  simp [State.serve, h]

theorem State.lockAndReply_eq {s : State} {r : Request} {k : RequestKind} (hq : s.mgmt.queue.head? = some r)
    (hk : r.kind = k.code) (reason : LockReason) (number : Nat) :
    s.lockAndReply reason number = s.lockedBy k r reason number := by
  have hq' : ((s.onMgmt fun m => { m with lock := some (reason, number) }).onReport fun x =>
      { x with conditions := x.conditions.lockRises }).mgmt.queue.head? = some r := hq
  unfold State.lockAndReply
  rw [State.reply_eq_answered hq' hk]
  rfl

/-! ## Reporting: what an offer and a change leave as they were -/

theorem Reporting.settle_cases (r : Reporting) (now n : Nat) :
    ((r.channel n).exhausted = false ∧ r.settle now n = r)
      ∨ ((r.channel n).exhausted = true
          ∧ r.settle now n =
            (r.setChannel n
              { r.channel n with
                state := .starved, creditOut := some ((r.channel n).frozenCreditOut now n) }).raise .starved) := by
  unfold Reporting.settle
  by_cases h : (r.channel n).exhausted = true
  · exact Or.inr ⟨h, by simp [h]⟩
  · exact Or.inl ⟨by simpa using h, by simp [h]⟩

@[simp] theorem Reporting.settle_zones (r : Reporting) (now n : Nat) : (r.settle now n).zones = r.zones := by
  rcases r.settle_cases now n with ⟨_, e⟩ | ⟨_, e⟩ <;> simp [e]
@[simp] theorem Reporting.settle_boundary (r : Reporting) (now n : Nat) : (r.settle now n).boundary = r.boundary := by
  rcases r.settle_cases now n with ⟨_, e⟩ | ⟨_, e⟩ <;> simp [e]
@[simp] theorem Reporting.settle_counter (r : Reporting) (now n i : Nat) :
    (r.settle now n).conditions.counter i = r.conditions.counter i := by
  rcases r.settle_cases now n with ⟨_, e⟩ | ⟨_, e⟩ <;> simp [e]

/-- Settling a channel leaves the others. -/
theorem Reporting.settle_channel_other (r : Reporting) (now : Nat) {n m : Nat} (h : m ≠ n) :
    (r.settle now n).channel m = r.channel m := by
  rcases r.settle_cases now n with ⟨_, e⟩ | ⟨_, e⟩
  · rw [e]
  · rw [e, Reporting.raise_channel, Reporting.setChannel_channel, if_neg h]

/-- An offer to one channel that does not serve the zone changes nothing. -/
theorem Reporting.offerZoneTo_of_not_serves {r : Reporting} {now zone n : Nat} (h : (r.channel n).serves zone = false) :
    r.offerZoneTo now zone n = r := by simp [Reporting.offerZoneTo, h]

@[simp] theorem Reporting.offerZoneTo_zones (r : Reporting) (now zone n : Nat) :
    (r.offerZoneTo now zone n).zones = r.zones := by
  simp only [Reporting.offerZoneTo]; split <;> simp

theorem foldl_keeps {α β γ : Type} (g : β → γ) (f : β → α → β) (h : ∀ b a, g (f b a) = g b) (l : List α) (b : β) :
    g (l.foldl f b) = g b := by
  induction l generalizing b with
  | nil => rfl
  | cons a l ih => rw [List.foldl_cons, ih, h]

@[simp] theorem Reporting.offerZone_zones (r : Reporting) (now zone : Nat) : (r.offerZone now zone).zones = r.zones :=
  foldl_keeps Reporting.zones _ (fun _ _ => Reporting.offerZoneTo_zones _ _ _ _) _ _

@[simp] theorem Reporting.offerNoticeTo_zones (r : Reporting) (now : Nat) (x : Notice) (n : Nat) :
    (r.offerNoticeTo now x n).zones = r.zones := by
  simp only [Reporting.offerNoticeTo]; split
  · split <;> simp
  · rfl

@[simp] theorem Reporting.offerNotice_zones (r : Reporting) (now : Nat) (x : Notice) :
    (r.offerNotice now x).zones = r.zones :=
  foldl_keeps Reporting.zones _ (fun _ _ => Reporting.offerNoticeTo_zones _ _ _ _) _ _

@[simp] theorem Reporting.notify_zones (r : Reporting) (now : Nat) (selected : Bool) (x : Notice) :
    (r.notify now selected x).zones = r.zones := by
  simp only [Reporting.notify]; split <;> simp

@[simp] theorem Reporting.offerZone_counter (r : Reporting) (now zone i : Nat) :
    (r.offerZone now zone).conditions.counter i = r.conditions.counter i :=
  foldl_keeps (fun r : Reporting => r.conditions.counter i) _
    (fun r n => by
      simp only [Reporting.offerZoneTo]
      split
      · simp
      · rfl) _ _

/-- Equal contributions hand nothing on (R86). -/
theorem Reporting.applyChange_same (r : Reporting) (now step : Nat) (c : Contribution) :
    r.applyChange now step c c = r := by simp [Reporting.applyChange]

theorem State.postChange_same {old new : FillState} (s : State) (h : old.contribution = new.contribution) :
    s.postChange old new = s := by
  simp [State.postChange, State.onReport, h, Reporting.applyChange_same]

end Sys2Proof.Machine
end

