-- ==== Sys2Proof/WellFormed.lean ====
section
/-! DEFINITION. Which commands are well formed: the ranges of the operands that their types do not give. -/

namespace Sys2Proof

/-- A command is well formed when its operands lie in the ranges the manual gives them: a receive step takes at
least one octet, a segment number is 0 to 31 (R1), a bank has 32 slots (R26), and the octet of a length octet
error is 249 to 255 (R133). -/
def Instr.wellFormed : Instr → Bool
  | .fldRxFrame octets => !octets.isEmpty
  | .trkRxFrame octets => !octets.isEmpty
  | .holdTimerExpiry segment => segment < 32
  | .curveSwap wear => wear.length ≤ 32
  | .lengthOctetError _ octet => 249 ≤ octet.value.toNat
  | .deviceReset _ _ | .trunkIngressRoute | .fieldEgressSend | .passThroughGrant | .replySlotGrant
  | .refusalSlotGrant | .conditionNoticeGrant | .creditOutNotice | .reportFrame | .partTimeTick | .entryDue
  | .paceBoundary | .autoCountdownExpiry | .holdoffEnd | .testIntervalExpiry | .copy | .handOver | .eviction
  | .takeReleasedEntry | .recordFetch _ | .fillComputation _ | .runWrite _ | .application _ | .writeBack _
  | .visit _ | .staleWrite _ | .loadGrant _ | .convertedRead _ | .binReadAccess _ | .binScan _ | .bankExchange
  | .restartCarriedOut | .tableWideClear | .unknownRequest | .info | .timeSet | .paramSet | .paramRead
  | .binLoad | .binRead | .curveLoad | .curveRead _ | .zoneRead | .protect | .hold | .release | .sweepStart
  | .sweepSuspend | .sweepResume | .sweepRead | .stop | .clear | .channelSet | .channelClose | .channelRead
  | .credit | .sync | .alertSet | .alertRead | .alertClear | .snapshot | .statsRead | .testStart | .testStop
  | .testRead | .restart => true

end Sys2Proof
end

