-- ==== Sys2Proof/Tests/Slice0.lean ====
section
/-! SUPPORT. Tests: the checks of WellFormed, the worked cases of the manual, and for each statement for the provers
states and operands that meet its hypotheses, clause by clause. -/

namespace Sys2Proof.Machine.Tests

-- One test at a time: a test that waits for the kernel would hold a thread of its own.
set_option Elab.async false

/-! ## WellFormed refuses an ill-formed term of each check -/

theorem test_field_frame_of_no_octets : Instr.wellFormed (.fldRxFrame []) = false := by decide
theorem test_trunk_frame_of_no_octets : Instr.wellFormed (.trkRxFrame []) = false := by decide
theorem test_hold_expiry_of_segment_32 : Instr.wellFormed (.holdTimerExpiry 32) = false := by decide
theorem test_curve_swap_of_33_slots : Instr.wellFormed (.curveSwap (List.replicate 33 .steady)) = false := by decide
theorem test_length_octet_of_248 : Instr.wellFormed (.lengthOctetError .field ⟨248, true⟩) = false := by decide
theorem test_well_formed_commands :
    Instr.wellFormed (.fldRxFrame [⟨0xA5, true⟩]) = true ∧ Instr.wellFormed (.holdTimerExpiry 31) = true
      ∧ Instr.wellFormed (.curveSwap (List.replicate 32 .steady)) = true
      ∧ Instr.wellFormed (.lengthOctetError .trunk ⟨249, false⟩) = true := by decide

/-- The table gives no row any bits, so no word spells a command. -/
theorem test_no_word_spells_a_command : decodeTableWord 8 0 = none := by decide

/-! ## Worked cases of the manual -/

/-- The known check value of the CRC of R132 over the octets of the digits 1 to 9. -/
theorem test_crc_check_value :
    crc16 [0x31, 0x32, 0x33, 0x34, 0x35, 0x36, 0x37, 0x38, 0x39] = 0x29B1#16 := by decide +kernel

/-- The three examples of R62. -/
theorem test_echo_examples :
    chooseEcho .litter [0, 31200, 5400] = some 5400 ∧ chooseEcho .glass [3120, 0, 7857] = some 7857
      ∧ chooseEcho .glass [6000, 6000, 2000] = some 6000 := by decide

/-- The curve of section 4.11. -/
def iglooCurve : List Point := [⟨0, 0⟩, ⟨300, 150⟩, ⟨700, 480⟩, ⟨1000, 750⟩, ⟨1400, 1000⟩]

/-- Section 4.11: a glass igloo. -/
theorem test_glass_igloo :
    computeFill { BinRecord.reset with kind := .glass, emptyDepth := 1500, capacity := 3000 } (some 540) 300 4150 (-5)
      iglooCurve = .computed 587 551 false 1653 := by decide +kernel

/-- Section 4.12: an emptying. -/
theorem test_emptying :
    computeFill { BinRecord.reset with kind := .glass, emptyDepth := 1500, capacity := 3000 } (some 910) 300 7857 12
      iglooCurve = .computed 85 85 true 255 := by decide +kernel

/-- Section 4.13: the readings at the limits. -/
theorem test_limits :
    rawFill (heightOf 1200 (distanceOf 250 (temperatureUsed (-128)))) [⟨0, 0⟩, ⟨400, 350⟩, ⟨1000, 900⟩] = 900
      ∧ distanceOf 30000 (temperatureUsed 100) = 4095
      ∧ rawFill (heightOf 1200 (distanceOf 4000 (temperatureUsed (-60)))) [⟨0, 0⟩, ⟨400, 350⟩, ⟨1000, 900⟩] = 520 := by
  decide +kernel

/-- Section 4.13: the filter on the same bin. -/
theorem test_filter_rows :
    filterReading (some 520) 521 300 8 = (521, false) ∧ filterReading (some 520) 515 300 8 = (518, false)
      ∧ filterReading (some 300) 0 300 8 = (0, true) ∧ filterReading (some 299) 0 300 8 = (150, false) := by decide +kernel

/-- Section 5.1.1: hysteresis. -/
theorem test_hysteresis_rows :
    judgeLevel 805 600 800 50 .near = .full ∧ judgeLevel 760 600 800 50 .full = .full
      ∧ judgeLevel 749 600 800 50 .full = .near ∧ judgeLevel 560 600 800 50 .near = .near
      ∧ judgeLevel 549 600 800 50 .near = .low ∧ judgeLevel 580 600 800 50 .low = .low := by decide

/-- The table of R73. -/
theorem test_generator_echoes : echoFor 100 = 583 ∧ echoFor 1000 = 5824 ∧ echoFor 4000 = 23296 := by decide +kernel

/-- The octets of section 9.6.2: a damaged frame of ten payload octets, an empty FOREIGN frame within it, and the sync
pair of the next frame. -/
def huntOctets : List LineOctet :=
  ([0xA5, 0x3C, 0x0A, 0x01, 0x11, 0x12, 0x13] ++ Frame.octets { cls := 0x02, payload := [] } ++ [0xA5, 0x3C, 0x0A]).map
    fun octet => ⟨octet, true⟩

/-- Section 9.6.2: hunting after a damaged frame. -/
theorem test_hunting_finds_the_inner_frame :
    (huntOctets.foldl (State.arrive .field) State.reset).trunk.passThrough = [[]]
      ∧ (huntOctets.foldl (State.arrive .field) State.reset).field.rx = ⟨.cls, [0x0A]⟩ := by decide +kernel

/-- Section 9.6.2: the damaged frame is counted once. -/
theorem test_hunting_counts_one_error :
    ((huntOctets.foldl (State.arrive .field) State.reset).counter .fieldCrcError).live = 1 := by decide +kernel

/-! ## States for the statements -/

/-- The request of a kind with some arguments. -/
def asked (k : RequestKind) (args : List Octet) : Request where
  source := 0x1234
  tag := 7
  kind := k.code
  args := args

/-- The part with one request waiting. -/
def asking (k : RequestKind) (args : List Octet) : State :=
  State.reset.onMgmt fun m => { m with queue := [asked k args] }

/-- The part with the Management Unit at a stage of serving one request. -/
def serving (k : RequestKind) (stage : Stage) : State := (asking k []).onMgmt fun m => { m with stage := stage }

/-- A bin in service, heard, counted in a zone. -/
def heardBin (zone : Nat) : Bin :=
  { Bin.reset with
    record := { BinRecord.reset with inService := true, tag := 5, zone := zone }
    generation := 1
    fill :=
      { FillState.reset with
        service := .active, level := .low, filtered := some 100, lastRaw := some 100, lastSequence := some 4
        reception := some { lanes := 1, margin := 3, copies := 1 }, countedZone := some zone, countedLitres := 10 } }

/-- A reading of bin 9 on lane 2. -/
def reading : Reading where
  bin := 9
  tag := 5
  sequence := 5
  tilt := false
  lidOpen := false
  temperature := 20
  lane := 2
  margin := 0
  echoes := [3000]

/-- That reading, taken from the Arrival Filter. -/
def taken : Taken where
  reading := reading
  arrival := 0
  source := .arrivals

/-- That reading, accepted on the record of `heardBin`. -/
def accepted : Accepted where
  taken := taken
  record := (heardBin 1).record
  fill := (heardBin 1).fill
  generation := 1
  gapCount := 0
  gapGain := 0
  sensorRestart := false

/-- The entry of that reading, due. -/
def entry : Arrival where
  bin := 9
  sequence := 5
  firstArrival := 0
  lanes := 4
  margin := 0
  copies := 1
  generation := some 1
  due := true

/-- The Reading Unit at work on bin 9, which is in service. -/
def readingOn (r : ReadingUnit) : State := (State.reset.setBin 9 (heardBin 1)).readerTo r

/-- The part with entries of the Arrival Filter. -/
def filtering (entries : List Arrival) (retiring : Option Retirement) : State :=
  State.reset.onFilter fun _ => { entries := entries, retiring := retiring }

/-- An open channel with one zone summary queued and the full credit. -/
def openChannel : Channel :=
  { Channel.reset with state := .opened, zones := 2, credit := 255, queue := [⟨.summary 1, false⟩] }

/-- A CREDIT-OUT notice. -/
def creditOut : CreditOut where
  destination := 3
  channel := 7
  partTime := 0
  queueLength := 1
  lost := 0

/-- The part with channel 7 set. -/
def withChannel (c : Channel) : State := State.reset.setChannel 7 c

/-- The part with a sweep on bin 9 at a visit stage. -/
def sweeping (stage : VisitStage) (last : Nat) : State :=
  (State.reset.setBin 9 (heardBin 1)).onSweep fun e =>
    { e with state := .running, first := 9, last := last, cursor := 9, stage := stage }

/-- The tally of a zone whose one member is `heardBin`. -/
def heardTally : Tally := { Tally.zero with members := 1, litres := 10 }

/-- A part at work: a bin in service and counted, an open channel, a sweep on its way and the unit locked. -/
def busy : State :=
  let s :=
    (((State.reset.setBin 9 (heardBin 1)).onReport (Reporting.setTally 1 heardTally)).setChannel 7 openChannel).onSweep fun e =>
      { e with state := .running, first := 9, last := 11, cursor := 10, visited := 1, stage := .read }
  s.onMgmt fun m => { m with lock := some (.sweepRange, 3) }

/-- An uncorrectable bin in service. -/
def damagedBin : Bin := { heardBin 1 with badBits := 2 }

/-! ## The machine as a whole: hypotheses that can be met -/

theorem witness_front_command : ∃ s : State, s.pending = [.info, .partTimeTick] :=
  ⟨{ State.reset with pending := [.info, .partTimeTick] }, rfl⟩

theorem witness_empty_queue : State.reset.pending = [] := by decide

/-- The busy part meets every invariant, and its step answers a next state. -/
theorem witness_invariants :
    busy.storesCanonical ∧ busy.listsSound ∧ busy.channelsSound ∧ busy.binsSound ∧ busy.sweep.sound ∧ busy.mgmt.sound :=
  ⟨by decide +kernel, by decide +kernel, by decide +kernel, by decide +kernel, by decide +kernel, by decide +kernel⟩

theorem witness_tallies : busy.talliesAgree := by decide +kernel

theorem witness_step_of_the_busy_part : ∃ t, step { busy with pending := [.visit .steady] } = .next t := ⟨_, rfl⟩

/-- A part whose bin 9 names the curve of slot 0, with a reading of bin 9 computed, a load of bin 9 waiting over it, or a
scan that has passed bin 9. -/
def curved (stage : Stage) : State :=
  { (readingOn (.compute accepted)).onMgmt fun m => { m with queue := [asked .binLoad []], stage := stage } with
    curves := (State.reset.curves.setSlot .a 0 ⟨iglooCurve, 0, false⟩).setSlot .b 0 ⟨iglooCurve, 0, false⟩ }

/-- The litres and curves of a part with a computation on its way, while a load of the same bin waits and while a scan has
passed it; the load comes to generation 2 and the reading kept 1. -/
theorem witness_litres_and_curves :
    ((curved (.load 9 (heardBin 2).record false)).storesCanonical
        ∧ (curved (.load 9 (heardBin 2).record false)).generationsApart
        ∧ (curved (.load 9 (heardBin 2).record false)).litresAgree
        ∧ (curved (.load 9 (heardBin 2).record false)).curvesNamed)
      ∧ (curved (.scan 10)).curvesNamed ∧ (curved .exchange).curvesNamed
      ∧ ((curved .idle).readerTo (.apply accepted (.computed 900 900 false 90))).litresAgree := by
  refine ⟨⟨?_, ?_, ?_, ?_⟩, ?_, ?_, ?_⟩ <;> decide +kernel

/-- The credit of channel 7 rises from 254 by CREDIT. -/
theorem witness_credit_rises :
    let s := (asking .credit [7, 9]).setChannel 7 { openChannel with credit := 254 }
    ∃ t, exec .credit s = .next t ∧ (s.report.channel 7).credit < (t.report.channel 7).credit :=
  ⟨_, rfl, by decide +kernel⟩

theorem witness_locked_unit :
    busy.mgmt.lock ≠ none ∧ (∀ station speed, Instr.visit .steady ≠ .deviceReset station speed)
      ∧ ∃ t, exec (.visit .steady) busy = .next t := ⟨by decide, by simp, _, rfl⟩

/-- The credit of an open channel falls from 255 by a REPORT frame. -/
theorem witness_credit_falls :
    ∃ t, exec .reportFrame (withChannel openChannel) = .next t
      ∧ ((withChannel openChannel).report.channel 7).credit ≤ 255
      ∧ (t.report.channel 7).credit < ((withChannel openChannel).report.channel 7).credit := ⟨_, rfl, by decide +kernel⟩

/-! ## Links and traffic -/

theorem witness_longest_frame : (Frame.mk 0x02 (List.replicate 248 0)).payload.length ≤ 248 := by decide +kernel

theorem witness_hunting_receivers : State.reset.field.rx = ⟨.hunt, []⟩ ∧ State.reset.trunk.rx = ⟨.hunt, []⟩ := by decide

theorem witness_length_octet :
    (Receiver.mk .length []).state = .length ∧ 248 < (249 : Octet).toNat ∧ 248 < (255 : Octet).toNat := by decide

theorem witness_crc_mismatch :
    ([] : List Octet).length = (0 : Octet).toNat ∧ crc16 [0x00, 0x02] ≠ (0 : Octet) ++ (0 : Octet) := by decide +kernel

theorem witness_takings : takings (State.reset.receiver .trunk) ≤ 4 := by decide

theorem witness_receivers_in_length :
    (State.reset.setReceiver .field ⟨.length, []⟩).field.rx = ⟨.length, []⟩
      ∧ (State.reset.setReceiver .trunk ⟨.length, []⟩).trunk.rx = ⟨.length, []⟩ := by decide

/-- The part with a trunk frame waiting. -/
def routing (f : TrunkFrame) : State :=
  { State.reset with trunk := { State.reset.trunk with ingress := [f] } }

theorem witness_trunk_ingress :
    (routing (.foreign [1])).trunk.ingress = [.foreign [1]]
      ∧ (routing (.request (asked .info []))).trunk.ingress = [.request (asked .info [])] := by decide

/-- The part with frames waiting to be sent. -/
def sending (passThrough : List (List Octet)) (reply refusal : Option Reply) (last : EgressClass) : State :=
  { State.reset with
    field := { State.reset.field with egress := passThrough }
    trunk := { State.reset.trunk with passThrough := passThrough, refusal := refusal, lastClass := last }
    mgmt := { State.reset.mgmt with reply := reply } }

/-- A reply. -/
def aReply : Reply where
  destination := 3
  tag := 7
  kind := 0x01
  result := .done
  content := []

theorem witness_foreign_frames :
    (sending [[1]] none none .passThrough).field.egress = [[1]]
      ∧ (sending [[1]] none none .passThrough).ownSource = none
      ∧ (sending [[1]] (some aReply) none .own).trunk.lastClass = .own := by decide +kernel

theorem witness_replies_and_refusals :
    (sending [] (some aReply) none .own).trunk.passThrough = []
      ∧ (sending [] (some aReply) none .own).mgmt.reply = some aReply
      ∧ (sending [[1]] none (some aReply) .passThrough).trunk.lastClass = .passThrough
      ∧ (sending [[1]] none (some aReply) .passThrough).mgmt.reply = none
      ∧ (sending [[1]] none (some aReply) .passThrough).trunk.refusal = some aReply := by decide

theorem witness_egress_clauses :
    ((sending [[1]] (some aReply) none .own).trunk.passThrough ≠ []
        ∧ (sending [[1]] (some aReply) none .own).ownSource ≠ none)
      ∧ (sending [] (some aReply) none .own).trunk.passThrough = []
      ∧ ((sending [[1]] none none .own).trunk.passThrough ≠ [] ∧ (sending [[1]] none none .own).ownSource = none) := by
  decide +kernel

/-! ## Conditions, reports and the tick -/

theorem witness_raised_flag :
    Bits.has Flag.parkFull.index (State.reset.raise .parkFull).report.conditions.raised = true := by decide

/-- The part with a condition notice waiting, or with its holdoff at its end. -/
def noticing (waiting : Bool) (holdoff : Option Nat) : State :=
  State.reset.onConditions fun u => { u with address := some 9, noticeWaiting := waiting, holdoff := holdoff }

theorem witness_condition_notice :
    (noticing true none).egressGrant = some .notice ∧ (noticing true none).report.conditions.address = some 9
      ∧ (noticing false (some 0)).report.conditions.holdoff = some 0 := by decide +kernel

theorem witness_credit_out :
    (withChannel { openChannel with creditOut := some creditOut }).egressGrant = some (.channel 7)
      ∧ ((withChannel { openChannel with creditOut := some creditOut }).report.channel 7).creditOut = some creditOut := by
  decide +kernel

theorem witness_report_frame :
    (withChannel openChannel).egressGrant = some (.channel 7)
      ∧ ((withChannel openChannel).report.channel 7).creditOut = none := by decide +kernel

/-- The part at a pace boundary. -/
def atBoundary : State :=
  (withChannel { openChannel with mode := .paced, credit := 0 }).onReport fun r => { r with boundary := true }

theorem witness_pace_boundary :
    atBoundary.report.boundary = true ∧ ∀ n < 8, (atBoundary.report.channel n).exhausted = false := by decide +kernel

/-- The part with a held segment, its timer at some seconds. -/
def holding (segment seconds : Nat) : State :=
  { State.reset with table := { State.reset.table with held := [(segment, seconds)] } }

theorem witness_tick :
    (∀ e ∈ (holding 31 1).table.held, e.2 ≠ 0) ∧ (holding 31 1).sweep.expired = false
      ∧ (holding 31 1).report.boundary = false ∧ (holding 31 1).report.conditions.holdoff ≠ some 0
      ∧ ∀ e ∈ (holding 31 0).table.held, e.1 < 32 := by decide

theorem witness_auto_expiry : (State.reset.onSweep fun e => { e with expired := true }).sweep.expired = true := by decide

/-! ## The Arrival Filter and the Park List -/

/-- The part with a reading at the head of the field ingress FIFO. -/
def arriving (entries : List Arrival) : State :=
  { filtering entries none with field := { State.reset.field with ingress := [reading] } }

theorem witness_copy :
    (arriving [entry]).field.ingress = [reading] ∧ (arriving [entry]).filter.entries = [] ++ entry :: []
      ∧ ((arriving [entry]).filter.entries.map fun x => (x.bin, x.sequence)).Nodup
      ∧ entry.bin = reading.bin ∧ entry.sequence = reading.sequence := by decide

theorem witness_new_transmission :
    (arriving []).field.ingress = [reading]
      ∧ (∀ e ∈ (arriving []).filter.entries, ¬(e.bin = reading.bin ∧ e.sequence = reading.sequence))
      ∧ (arriving []).reader = .idle ∧ (arriving []).mgmt.stage ≠ .exchange
      ∧ (∀ p ∈ (arriving []).table.park, p.released = false) ∧ (arriving []).filter.entries.length < 256
      ∧ (arriving []).filter.entries.head? = none := by decide

/-- A new transmission beside a retirement under way, and one that waits for the due head entry of another. -/
theorem witness_head_entry_waits :
    (arriving [{ entry with bin := 1 }]).filter.entries = [{ entry with bin := 1 }]
      ∧ ({ entry with bin := 1 } : Arrival).due = true ∧ (arriving [{ entry with bin := 1 }]).filter.retiring = none
      ∧ (∀ e ∈ (arriving [{ entry with bin := 1 }]).filter.entries, ¬(e.bin = reading.bin ∧ e.sequence = reading.sequence))
      ∧ (filtering [entry] (some .expiry)).filter.retiring ≠ none := by decide

/-- A reading from the Arrival Filter is parked with Part Time as it stands at the fetch (R15), one from the Park List with
the time of its first parking (R16). -/
theorem test_park_time :
    (({ readingOn (.fetch taken) with mgmt := { State.reset.mgmt with partTime := 8 } } : State).park taken).table.park.map
        (·.arrival) = [8]
      ∧ ((readingOn (.fetch taken)).park { taken with arrival := 5, source := .parkList }).table.park.map (·.arrival) = [5] := by
  decide +kernel

/-- A tick under a longer dedup hold takes back that an entry is due (R42). -/
theorem test_longer_hold_takes_due_back : (entry.tested 14 15).due = false ∧ (entry.tested 15 15).due = true := by decide

/-- A Park List of an unreleased and a released entry. -/
def parkedPair : List Parked :=
  [{ reading := reading, arrival := 0, released := false }, { reading := reading, arrival := 1, released := true }]

theorem witness_released_entry :
    ∃ s : State,
      s.table.park = [{ reading := reading, arrival := 0, released := false }]
          ++ { reading := reading, arrival := 1, released := true } :: []
        ∧ s.reader = .idle ∧ s.mgmt.stage ≠ .exchange ∧ s.filter.entries.head? = none :=
  ⟨{ State.reset with table := { State.reset.table with park := parkedPair } }, by decide⟩

theorem witness_due_entry :
    (filtering [entry] none).filter.entries = entry :: [] ∧ (filtering [entry] none).filter.retiring = none
      ∧ entry.due = true ∧ (filtering [entry] none).reader.holding = none
      ∧ ((filtering [{ entry with bin := 1 }] none).readerTo (.fetch taken)).reader.holding = some taken
      ∧ ¬(taken.source = .arrivals ∧ taken.reading.bin = ({ entry with bin := 1 } : Arrival).bin
          ∧ taken.reading.sequence = entry.sequence) := by decide

/-- The Recent Arrivals list full of entries of other transmissions. -/
def fullList : List Arrival := List.replicate 256 { entry with bin := 1 }

theorem witness_eviction :
    (∃ rest, (arriving fullList).filter.entries = { entry with bin := 1 } :: rest) ∧ (arriving fullList).filter.retiring = none
      ∧ (arriving fullList).field.ingress = reading :: []
      ∧ (∀ x ∈ (arriving fullList).filter.entries, ¬(x.bin = reading.bin ∧ x.sequence = reading.sequence))
      ∧ (arriving fullList).reader = .idle ∧ (arriving fullList).mgmt.stage ≠ .exchange
      ∧ (∀ p ∈ (arriving fullList).table.park, p.released = false)
      ∧ 256 ≤ (arriving fullList).filter.entries.length :=
  ⟨⟨List.replicate 255 { entry with bin := 1 }, rfl⟩, by decide +kernel⟩

theorem witness_entry_waits :
    ({ entry with due := false } : Arrival).due = false ∧ (filtering [entry] (some .expiry)).filter.retiring ≠ none
      ∧ ∃ t, ((filtering [entry] none).readerTo (.fetch taken)).reader.holding = some t ∧ t.source = .arrivals
          ∧ t.reading.bin = entry.bin ∧ t.reading.sequence = entry.sequence := ⟨by decide, by decide, taken, by decide⟩

/-- The part with a write-back pending for bin 9, which is in service. -/
def writingBack : State :=
  (filtering [entry] (some .expiry)).setBin 9 (heardBin 1)

/-- A record with a repair mark, before a repair that corrects it and before one that finds it damaged. -/
def markedBin : Bin := { heardBin 1 with badBits := 1, repair := true }

/-- What a fill write of that record finds. -/
theorem witness_repairs :
    (markedBin.repair = true ∧ ¬2 ≤ worn .steady markedBin.badBits) ∧ 2 ≤ worn .oneFails markedBin.badBits
      ∧ (heardBin 1).repair = false := by decide

theorem witness_write_back :
    writingBack.storesCanonical ∧ writingBack.filter.entries = entry :: [] ∧ writingBack.filter.retiring = some .expiry
      ∧ writingBack.portGrant = some .arrivalFilter ∧ (writingBack.bin entry.bin).repair = false
      ∧ ((writingBack.setBin 9 markedBin).storesCanonical
        ∧ (writingBack.setBin 9 markedBin).portGrant = some .arrivalFilter
        ∧ (writingBack.setBin 9 markedBin).bin entry.bin = markedBin) := by decide +kernel

theorem witness_run_write :
    (readingOn (.runWrite taken 1 2)).storesCanonical ∧ (readingOn (.runWrite taken 1 2)).reader = .runWrite taken 1 2
      ∧ (readingOn (.runWrite taken 1 2)).portGrant = some .readingUnit
      ∧ ((readingOn (.runWrite taken 1 2)).bin taken.reading.bin).repair = false
      ∧ ((readingOn (.runWrite taken 1 2)).setBin 9 markedBin).storesCanonical
      ∧ ((readingOn (.runWrite taken 1 2)).setBin 9 markedBin).bin taken.reading.bin = markedBin := by decide +kernel

/-! ## Accesses to the Bin Table and the requests on it -/

theorem witness_no_repair_mark : (State.reset.bin 4095).repair = false := by decide

/-- The five commands that read a record. -/
theorem witness_record_reads :
    (readingOn (.fetch taken)).recordRead (.recordFetch .twoFail) = some (9, .twoFail)
      ∧ (sweeping .read 9).recordRead (.visit .oneFails) = some (9, .oneFails)
      ∧ (serving .binLoad (.converted 9)).recordRead (.convertedRead .steady) = some (9, .steady)
      ∧ (serving .binRead (.binRead 4095)).recordRead (.binReadAccess .recovers) = some (4095, .recovers)
      ∧ (serving .curveSwap (.scan 0)).recordRead (.binScan .steady) = some (0, .steady) := by decide +kernel

/-- The four findings of a record read, and the service state and zone that a FAULT entry needs. -/
theorem witness_findings :
    worn .steady (heardBin 1).badBits = 0 ∧ worn .steady ({ heardBin 1 with badBits := 1, repair := true } : Bin).badBits = 1
      ∧ (worn .oneFails (heardBin 1).badBits = 1 ∧ (heardBin 1).repair = false)
      ∧ (worn .twoFail (heardBin 1).badBits = 2 ∧ (heardBin 1).fill.service = .active
          ∧ (heardBin 1).fill.countedZone ≠ none) := by decide

/-- Arguments of a BIN LOAD. -/
def loadArgs (bin : Nat) (r : BinRecord) : List Octet := recordOctets bin r

theorem witness_bin_load_clauses :
    ((asking .binLoad (loadArgs 4096 BinRecord.reset)).offers .binLoad (asked .binLoad (loadArgs 4096 BinRecord.reset))
        ∧ (asking .binLoad (loadArgs 4096 BinRecord.reset)).mgmt.lock = none
        ∧ 4095 < fieldAt 0 2 (loadArgs 4096 BinRecord.reset))
      ∧ ((asking .binLoad (loadArgs 4095 BinRecord.reset)).offers .binLoad (asked .binLoad (loadArgs 4095 BinRecord.reset))
        ∧ fieldAt 0 2 (loadArgs 4095 BinRecord.reset) ≤ 4095
        ∧ Bits.has 31 (asking .binLoad (loadArgs 4095 BinRecord.reset)).table.protectedSegments = false
        ∧ (argRecord (loadArgs 4095 BinRecord.reset)).inRange = true
        ∧ (argRecord (loadArgs 4095 BinRecord.reset)).inService = false) := by decide +kernel

/-- A BIN LOAD of bin 4095 meets its protected segment. -/
theorem witness_protected_load :
    ∃ s : State, s.offers .binLoad (asked .binLoad (loadArgs 4095 BinRecord.reset)) ∧ s.mgmt.lock = none
      ∧ Bits.has (4095 / 128) s.table.protectedSegments = true :=
  ⟨{ asking .binLoad (loadArgs 4095 BinRecord.reset) with
      table := { State.reset.table with protectedSegments := 0x80000000 } }, by decide +kernel⟩

/-- A record out of range (collect at warn), and a bin in service whose curve is absent. -/
theorem witness_refused_loads :
    (asking .binLoad (loadArgs 0 { BinRecord.reset with collect := 600 })).offers .binLoad
        (asked .binLoad (loadArgs 0 { BinRecord.reset with collect := 600 }))
      ∧ ¬((argRecord (loadArgs 0 { BinRecord.reset with collect := 600 })).warn + 1
          ≤ (argRecord (loadArgs 0 { BinRecord.reset with collect := 600 })).collect)
      ∧ (asking .binLoad (loadArgs 0 (heardBin 1).record)).offers .binLoad (asked .binLoad (loadArgs 0 (heardBin 1).record))
      ∧ (argRecord (loadArgs 0 (heardBin 1).record)).inService = true
      ∧ (State.reset.curves.slot .a 0).points = [] := by decide +kernel

theorem witness_converted_read :
    (serving .binLoad (.converted 9)).storesCanonical
      ∧ (serving .binLoad (.converted 9)).mgmt.queue.head? = some (asked .binLoad [])
      ∧ (asked .binLoad []).kind = RequestKind.binLoad.code
      ∧ (serving .binLoad (.converted 9)).portGrant = some .managementUnit
      ∧ worn .steady ((serving .binLoad (.converted 9)).bin 9).badBits ≤ 1
      ∧ worn .oneFails ((serving .binLoad (.converted 9)).bin 9).badBits ≤ 1
      ∧ 2 ≤ worn .twoFail ((serving .binLoad (.converted 9)).bin 9).badBits := by decide +kernel

/-- A BIN LOAD waiting for its grant, over a bin that is OFF, and over one in service. -/
def loading (b : Bin) (record : BinRecord) : State := (serving .binLoad (.load 9 record false)).setBin 9 b

theorem witness_load_grant :
    (loading (heardBin 1) (heardBin 2).record).storesCanonical
      ∧ (loading (heardBin 1) (heardBin 2).record).mgmt.stage = .load 9 (heardBin 2).record false
      ∧ (loading (heardBin 1) (heardBin 2).record).mgmt.queue.head? = some (asked .binLoad [])
      ∧ (loading (heardBin 1) (heardBin 2).record).portGrant = some .managementUnit
      ∧ worn .oneFails ((loading (heardBin 1) (heardBin 2).record).bin 9).badBits ≤ 1
      ∧ worn .twoFail ((loading (heardBin 1) (heardBin 2).record).bin 9).badBits = 2 := by decide +kernel

/-- The load keeps the Fill State of an ACTIVE bin of the same tag, starts a bin that is OFF afresh, and takes a bin out
of service. -/
theorem witness_load_forms :
    ((heardBin 2).record.inService = true ∧ (heardBin 1).fill.service = .active
        ∧ (heardBin 2).record.tag = (heardBin 1).record.tag)
      ∧ (Bin.reset.fill.service ≠ .active ∧ worn .steady ((loading Bin.reset (heardBin 2).record).bin 9).badBits ≤ 1)
      ∧ BinRecord.reset.inService = false := by decide +kernel

theorem witness_bin_read :
    (asking .binRead [0x10, 0x00]).offers .binRead (asked .binRead [0x10, 0x00]) ∧ 4095 < fieldAt 0 2 [0x10, 0x00]
      ∧ (asking .binRead [0x0F, 0xFF]).offers .binRead (asked .binRead [0x0F, 0xFF]) ∧ fieldAt 0 2 [0x0F, 0xFF] ≤ 4095
      ∧ (serving .binRead (.binRead 9)).storesCanonical
      ∧ (serving .binRead (.binRead 9)).portGrant = some .managementUnit ∧ worn .oneFails ((serving .binRead (.binRead 9)).bin 9).badBits ≤ 1
      ∧ 2 ≤ worn .twoFail ((serving .binRead (.binRead 9)).bin 9).badBits := by decide +kernel

theorem witness_protect_and_hold :
    (asking .protect [0, 0, 0, 1]).offers .protect (asked .protect [0, 0, 0, 1])
      ∧ (asking .protect [0, 0, 0, 1]).mgmt.lock = none
      ∧ (asking .hold [0x80, 0, 0, 1]).offers .hold (asked .hold [0x80, 0, 0, 1])
      ∧ Table.rising none (asking .hold [0x80, 0, 0, 1]).table.held = true := by decide

/-- The part with a held segment and a RELEASE of a segment waiting. -/
def releasing (segment : Octet) : State :=
  { asking .release [segment] with table := { State.reset.table with held := [(31, 300)] } }

theorem witness_hold_ends :
    Table.has 31 (holding 31 0).table.held = true ∧ Table.get 0 31 (holding 31 0).table.held = 0
      ∧ Table.get 0 31 (holding 31 1).table.held ≠ 0
      ∧ (releasing 31).offers .release (asked .release [31]) ∧ Table.has 31 (releasing 31).table.held = true := by decide

theorem witness_release_refused :
    ((releasing 32).offers .release (asked .release [32]) ∧ 31 < (octetAt 0 [(32 : Octet)]).toNat)
      ∧ (releasing 30).offers .release (asked .release [30]) ∧ (octetAt 0 [(30 : Octet)]).toNat ≤ 31
      ∧ Table.has 30 (releasing 30).table.held = false := by decide

theorem witness_record_in_range :
    BinRecord.reset.inRange = true ∧ BinRecord.reset.tag ≤ 65535
      ∧ ∀ p ∈ iglooCurve, p.height ≤ 3000 ∧ p.fill ≤ 1000 := by decide

/-! ## Curves -/

/-- A CURVE SWAP with one curve in slot 31 of the load bank. -/
def swapping (v : Slot) : State :=
  { asking .curveSwap [] with curves := State.reset.curves.setSlot .b 31 v }

theorem witness_curve_swap :
    (swapping ⟨iglooCurve, 0, false⟩).offers .curveSwap (asked .curveSwap [])
      ∧ (swapping ⟨iglooCurve, 0, false⟩).mgmt.lock = none
      ∧ shapeHolds ((swapping ⟨iglooCurve, 0, false⟩).curves.slot .b 31).points = true
      ∧ (∀ i < 31, ((swapping ⟨iglooCurve, 0, false⟩).curves.slot .b i).points = []) := by decide +kernel

/-- A damaged curve and a curve of a wrong shape. -/
theorem witness_failing_slots :
    (swapping ⟨iglooCurve, 0, true⟩).offers .curveSwap (asked .curveSwap [])
      ∧ ((swapping ⟨iglooCurve, 0, true⟩).curves.slot .b 31).damaged = true
      ∧ shapeHolds ((swapping ⟨[⟨1, 0⟩, ⟨2, 5⟩], 0, false⟩).curves.slot .b 31).points = false
      ∧ ((swapping ⟨[⟨1, 0⟩, ⟨2, 5⟩], 0, false⟩).curves.slot .b 31).points ≠ [] := by decide +kernel

theorem witness_bin_scan :
    (serving .curveSwap (.scan 4095)).storesCanonical
      ∧ (serving .curveSwap (.scan 4095)).mgmt.queue.head? = some (asked .curveSwap [])
      ∧ (serving .curveSwap (.scan 4095)).mgmt.stage = .scan 4095
      ∧ (serving .curveSwap (.scan 4095)).portGrant = some .managementUnit
      ∧ worn .oneFails ((serving .curveSwap (.scan 4095)).bin 4095).badBits ≤ 1
      ∧ 2 ≤ worn .twoFail ((serving .curveSwap (.scan 4095)).bin 4095).badBits := by decide +kernel

theorem witness_exchange :
    (serving .curveSwap .exchange).mgmt.stage = .exchange ∧ (serving .curveSwap .exchange).reader = .idle
      ∧ ((serving .curveSwap .exchange).readerTo (.fetch taken)).reader ≠ .idle := by decide

theorem witness_curve_requests :
    (asking .curveLoad [31, 0]).offers .curveLoad (asked .curveLoad [31, 0])
      ∧ (asking .curveLoad [31, 0]).mgmt.lock = none
      ∧ ((asking .curveRead [0, 32]).offers .curveRead (asked .curveRead [0, 32]) ∧ 31 < (octetAt 1 [(0 : Octet), 32]).toNat)
      ∧ ((asking .curveRead [2, 0]).offers .curveRead (asked .curveRead [2, 0]) ∧ 1 < (octetAt 0 [(2 : Octet), 0]).toNat)
      ∧ (asking .curveRead [0, 31]).offers .curveRead (asked .curveRead [0, 31])
      ∧ (asking .curveRead [1, 31]).offers .curveRead (asked .curveRead [1, 31]) := by decide

/-- The four findings of a slot access. -/
theorem witness_slot_findings :
    ((swapping ⟨iglooCurve, 2, true⟩).curves.slot .b 31).damaged = true
      ∧ (((swapping ⟨iglooCurve, 0, false⟩).curves.slot .b 31).points ≠ []
        ∧ ((swapping ⟨iglooCurve, 0, false⟩).curves.slot .b 31).damaged = false
        ∧ worn .steady ((swapping ⟨iglooCurve, 0, false⟩).curves.slot .b 31).badBits = 0
        ∧ worn .oneFails ((swapping ⟨iglooCurve, 0, false⟩).curves.slot .b 31).badBits = 1
        ∧ worn .twoFail ((swapping ⟨iglooCurve, 0, false⟩).curves.slot .b 31).badBits = 2) := by decide +kernel

/-! ## The Reading Unit -/

theorem witness_record_fetch :
    (readingOn (.fetch taken)).storesCanonical ∧ (readingOn (.fetch taken)).reader = .fetch taken
      ∧ (readingOn (.fetch taken)).portGrant = some .readingUnit
      ∧ worn .oneFails ((readingOn (.fetch taken)).bin taken.reading.bin).badBits ≤ 1 := by
  decide +kernel

theorem witness_echo_lists :
    ([1, 0, 30001].filter fun e => decide (1 ≤ e ∧ e ≤ 30000)) = [1]
      ∧ ([30000, 1].filter fun e => decide (1 ≤ e ∧ e ≤ 30000)) = [30000, 1]
      ∧ ([5, 7, 6].filter fun e => decide (1 ≤ e ∧ e ≤ 30000)) = [5, 7, 6]
      ∧ chooseEcho .glass [30000, 1] = some 30000 := by decide

theorem witness_temperatures_and_depths :
    ((-128 : Int) ≤ -128 ∧ (-128 : Int) ≤ 127) ∧ ((1 : Nat) ≤ 30000 ∧ (-40 : Int) ≤ 85) ∧ (3000 : Nat) ≤ 3000 := by decide

theorem witness_curve :
    2 ≤ iglooCurve.length ∧ shapeHolds iglooCurve = true
      ∧ (iglooCurve.getLast? = some ⟨1400, 1000⟩ ∧ (⟨1400, 1000⟩ : Point).height ≤ 1400)
      ∧ iglooCurve = [] ++ ⟨0, 0⟩ :: ⟨300, 150⟩ :: [⟨700, 480⟩, ⟨1000, 750⟩, ⟨1400, 1000⟩] := by decide

theorem witness_filter :
    ((1 : Nat) ≤ 100 ∧ (1 : Nat) ≤ 16) ∧ (filterReading (some 1000) 0 100 16).2 = true
      ∧ (filterReading (some 99) 0 100 1).2 = false := by decide +kernel

theorem witness_intended_distances : ((100 : Nat) ≤ 4000 ∧ (4000 : Nat) ≤ 4000) ∧ litresOf 1000 5000 = 5000 := by decide

theorem witness_levels :
    (999 + 1 ≤ 1000 ∧ 200 < 999) ∧ judgeLevel 1000 999 1000 0 .low = .full ∧ judgeLevel 999 999 1000 0 .low = .near
      ∧ judgeLevel 998 999 1000 0 .full = .low := by decide

theorem witness_fill_computation : (readingOn (.compute accepted)).reader = .compute accepted := by decide

theorem witness_application :
    (readingOn (.apply accepted (.computed 900 900 false 90))).storesCanonical
      ∧ (readingOn (.apply accepted (.computed 900 900 false 90))).portGrant = some .readingUnit
      ∧ ((readingOn (.apply accepted (.computed 900 900 false 90))).bin accepted.taken.reading.bin).repair = false
      ∧ ((readingOn (.apply accepted (.computed 900 900 false 90))).setBin 9 markedBin).storesCanonical
      ∧ ((readingOn (.apply accepted (.computed 900 900 false 90))).setBin 9 markedBin).bin 9 = markedBin
      ∧ (readingOn (.apply accepted (.held .tilt))).reader = .apply accepted (.held .tilt) := by decide +kernel

/-! ## Tallies and offers -/

theorem witness_contributions :
    FillState.reset.contribution = FillState.reset.contribution
      ∧ (heardBin 1).fill.contribution ≠ (heardBin 2).fill.contribution := by decide

theorem witness_offers :
    (7 : Nat) < 8 ∧ Bits.has Flag.starved.index State.reset.report.conditions.raised = false
      ∧ Bits.has Flag.reportLost.index State.reset.report.conditions.raised = false := by decide

/-! ## The Sweep Engine -/

/-- The part with a SWEEP SUSPEND waiting for the end of a visit. -/
def suspending (stage : VisitStage) (last : Nat) : State :=
  (sweeping stage last).onMgmt fun m => { m with queue := [asked .sweepSuspend []], stage := .suspend }

/-- A visit's read and its stale write at the last bin and before it, with and without a SWEEP SUSPEND waiting, over a
record that is readable and one that the wear damages. -/
theorem witness_visits :
    ((sweeping .read 9).storesCanonical ∧ (sweeping .read 9).portGrant = some .sweepEngine
        ∧ (sweeping .read 9).mgmt.stage ≠ .suspend ∧ (sweeping .read 9).sweep.stage = .read
        ∧ (suspending .read 10).storesCanonical ∧ (suspending .read 10).portGrant = some .sweepEngine
        ∧ (suspending .read 10).mgmt.stage = .suspend
        ∧ (suspending .read 10).mgmt.queue.head? = some (asked .sweepSuspend [])
        ∧ (asked .sweepSuspend []).kind = RequestKind.sweepSuspend.code
        ∧ worn .oneFails ((suspending .read 10).bin 9).badBits ≤ 1 ∧ 2 ≤ worn .twoFail ((suspending .read 10).bin 9).badBits)
      ∧ (sweeping (.write (heardBin 1).record 1 0) 4095).portGrant = some .sweepEngine
      ∧ (suspending (.write (heardBin 1).record 1 0) 9).sweep.stage = .write (heardBin 1).record 1 0
      ∧ ((suspending (.write (heardBin 1).record 1 0) 9).bin 9).repair = false
      ∧ ((sweeping (.write (heardBin 1).record 1 0) 9).setBin 9 markedBin).storesCanonical
      ∧ ((sweeping (.write (heardBin 1).record 1 0) 9).setBin 9 markedBin).bin 9 = markedBin := by decide +kernel

theorem witness_sweep_requests :
    ((asking .sweepStart [0x0F, 0xFF, 0, 0, 1]).offers .sweepStart (asked .sweepStart [0x0F, 0xFF, 0, 0, 1])
        ∧ (asking .sweepStart [0x0F, 0xFF, 0, 0, 1]).mgmt.lock = none)
      ∧ ((asking .sweepSuspend []).onSweep fun e => { e with state := .running, stage := .read }).offers .sweepSuspend
          (asked .sweepSuspend [])
      ∧ ((asking .sweepSuspend []).onSweep fun e => { e with state := .running }).offers .sweepSuspend (asked .sweepSuspend [])
      ∧ ((asking .sweepSuspend []).offers .sweepSuspend (asked .sweepSuspend [])
        ∧ (asking .sweepSuspend []).sweep.state ≠ .running)
      ∧ (asking .sweepResume []).offers .sweepResume (asked .sweepResume [])
      ∧ (asking .stop []).offers .stop (asked .stop [])
      ∧ (asking .sweepRead []).offers .sweepRead (asked .sweepRead []) := by decide

/-! ## Management requests -/

/-- A request of a wrong length, a locked unit's table-changing request, and a kind value that names no kind. -/
theorem witness_refused_requests :
    (servedKind .info = some .info ∧ (asked .info [0]).args.length ≠ RequestKind.info.argLength (asked .info [0]).args
        ∧ (asked .info [0]).kind = RequestKind.info.code)
      ∧ (servedKind .protect = some .protect ∧ RequestKind.protect.tableChanging = true
        ∧ (asked .protect [0, 0, 0, 0]).args.length = RequestKind.protect.argLength (asked .protect [0, 0, 0, 0]).args
        ∧ ((asking .protect [0, 0, 0, 0]).onMgmt fun m => { m with lock := some (.sweepRange, 65535) }).mgmt.queue.head?
          = some (asked .protect [0, 0, 0, 0]))
      ∧ ∀ k ∈ RequestKind.all, (0x61 : Octet) ≠ k.code := by decide

theorem witness_info_time_zone_clear :
    (asking .info []).offers .info (asked .info []) ∧ (asking .timeSet [255, 255, 255, 255]).offers .timeSet
        (asked .timeSet [255, 255, 255, 255])
      ∧ (asking .zoneRead [63, 1]).offers .zoneRead (asked .zoneRead [63, 1])
      ∧ (asking .clear []).offers .clear (asked .clear []) := by decide

theorem witness_parameters :
    (asking .paramSet (0x7F :: List.replicate 28 255)).offers .paramSet (asked .paramSet (0x7F :: List.replicate 28 255))
      ∧ (asking .paramRead []).offers .paramRead (asked .paramRead []) := by decide

theorem witness_restart :
    (asking .restart []).offers .restart (asked .restart [])
      ∧ (serving .restart .restartDue).storesCanonical ∧ (serving .restart .restartDue).mgmt.stage = .restartDue := by
  decide

/-- Arguments of a CHANNEL SET of channel 7. -/
def setArgs : List Octet := [7, 0, 3, 0, 0, 0, 0, 0, 0, 0, 2, 1]

theorem witness_channel_requests :
    (asking .channelSet setArgs).offers .channelSet (asked .channelSet setArgs)
      ∧ (asking .channelClose [8]).offers .channelClose (asked .channelClose [8])
      ∧ (asking .credit [7, 255]).offers .credit (asked .credit [7, 255])
      ∧ (asking .channelRead [7]).offers .channelRead (asked .channelRead [7]) := by decide

theorem witness_sync :
    ((asking .sync [8]).offers .sync (asked .sync [8]) ∧ 7 < (octetAt 0 [(8 : Octet)]).toNat)
      ∧ ((asking .sync [7]).offers .sync (asked .sync [7]) ∧ ((asking .sync [7]).report.channel 7).state = .closed)
      ∧ ((asking .sync [7]).setChannel 7 openChannel).offers .sync (asked .sync [7])
      ∧ (((asking .sync [7]).setChannel 7 openChannel).report.channel 7).state ≠ .closed
      ∧ (((asking .sync [7]).setChannel 7 openChannel).report.channel 7).exhausted = false := by decide +kernel

theorem witness_condition_requests :
    (asking .alertSet [0x0F, 0xFF, 2, 0, 0]).offers .alertSet (asked .alertSet [0x0F, 0xFF, 2, 0, 0])
      ∧ (asking .alertRead []).offers .alertRead (asked .alertRead [])
      ∧ (asking .alertClear [0x0F, 0xFF]).offers .alertClear (asked .alertClear [0x0F, 0xFF])
      ∧ ((asking .snapshot [2]).offers .snapshot (asked .snapshot [2]) ∧ 1 < (octetAt 0 [(2 : Octet)]).toNat)
      ∧ ((asking .snapshot [1]).offers .snapshot (asked .snapshot [1]) ∧ (asking .snapshot [1]).storesCanonical)
      ∧ (asking .statsRead [48, 1]).offers .statsRead (asked .statsRead [48, 1]) := by decide

/-- Arguments of a TEST START. -/
def testArgs : List Octet := [0, 0, 0x0F, 0xFF, 0, 5, 0, 100, 0, 1, 0, 5, 1]

theorem witness_test_requests :
    (asking .testStart testArgs).offers .testStart (asked .testStart testArgs)
      ∧ (asking .testStop []).offers .testStop (asked .testStop [])
      ∧ (asking .testRead []).offers .testRead (asked .testRead [])
      ∧ (State.reset.onTest fun g => { g with running := true }).test.running = true ∧ State.reset.test.running = false := by
  decide

end Sys2Proof.Machine.Tests
end

/-! Segments: PROTECT, HOLD, RELEASE and the expiry of a hold timer (section 1.7, R11 to R14). -/

namespace Sys2Proof.Machine

/-! ## Numbers carried in octets -/

/-- `width` octets carry a number modulo their range, so cutting it to that range first changes nothing. -/
theorem beOctets_mod (width n : Nat) : beOctets width (n % 256 ^ width) = beOctets width n := by
  induction width generalizing n with
  | zero => rfl
  | succ width ih =>
    have hhigh : n % 256 ^ (width + 1) / 256 = n / 256 % 256 ^ width := by
      rw [Nat.pow_succ', Nat.mod_mul_right_div_self]
    have hlow : BitVec.ofNat 8 (n % 256 ^ (width + 1)) = BitVec.ofNat 8 n := by
      apply BitVec.eq_of_toNat_eq
      simp only [BitVec.toNat_ofNat]
      exact Nat.mod_mod_of_dvd n ⟨256 ^ width, Nat.pow_succ'⟩
    rw [beOctets, beOctets, hhigh, hlow, ih]

/-- The segment set of a request, sent back, is its four octets as they came. -/
theorem beOctets_argSegments (args : List Octet) :
    beOctets 4 (argSegments args).toNat = beOctets 4 (fieldAt 0 4 args) :=
  beOctets_mod 4 (fieldAt 0 4 args)

theorem fieldAt_zero_one (args : List Octet) : fieldAt 0 1 args = (octetAt 0 args).toNat := by
  cases args with
  | nil => rfl
  | cons first rest => simp [fieldAt, octetAt, beValue]

/-! ## Writing one value under several numbers of a store -/

section
variable {α : Type}

theorem Table.has_cons (other key : Nat) (value : α) (t : Table α) :
    Table.has other ((key, value) :: t) = (decide (other = key) || Table.has other t) := by
  simp [Table.has, Bool.beq_eq_decide_eq, eq_comm]

theorem Table.has_insert (key other : Nat) (value : α) (t : Table α) :
    Table.has other (Table.insert key value t) = (decide (other = key) || Table.has other t) := by
  induction t with
  | nil => exact Table.has_cons other key value []
  | cons e rest ih =>
    obtain ⟨k, v⟩ := e
    simp only [Table.insert]
    split
    · exact Table.has_cons other key value _
    · split
      · rename_i hk
        subst hk
        simp [Table.has_cons]
      · rw [Table.has_cons, Table.has_cons, ih, Bool.or_left_comm]

theorem Table.has_foldl_insert (value : α) (keys : List Nat) (other : Nat) (t : Table α) :
    Table.has other (keys.foldl (fun h key => Table.insert key value h) t)
      = (decide (other ∈ keys) || Table.has other t) := by
  induction keys generalizing t with
  | nil => simp
  | cons key keys ih =>
    rw [List.foldl_cons, ih, Table.has_insert]
    by_cases ho : other = key <;> simp [ho]

theorem Table.get_foldl_insert (reset value : α) (keys : List Nat) (other : Nat) (t : Table α) :
    Table.get reset other (keys.foldl (fun h key => Table.insert key value h) t)
      = if other ∈ keys then value else Table.get reset other t := by
  induction keys generalizing t with
  | nil => simp
  | cons key keys ih =>
    rw [List.foldl_cons, ih]
    by_cases ho : other = key
    · subst ho
      simp [Table.get_insert_self]
    · simp [ho, Table.get_insert_other reset value ho]

theorem Table.rising_foldl_insert (value : α) (keys : List Nat) {t : Table α} (h : Table.rising none t = true) :
    Table.rising none (keys.foldl (fun h key => Table.insert key value h) t) = true := by
  induction keys generalizing t with
  | nil => exact h
  | cons key keys ih => exact ih (Table.rising_insert key value h (by simp))

end

/-! ## The held set -/

theorem BinTable.has_hold (limit : Nat) (segments : BitVec 32) (segment : Nat) (t : BinTable) :
    Table.has segment (t.hold limit segments).held = (Bits.has segment segments || Table.has segment t.held) := by
  simp [BinTable.hold, Table.has_foldl_insert, Bits.mem_members]

theorem BinTable.get_hold (limit : Nat) (segments : BitVec 32) (segment : Nat) (t : BinTable) :
    Table.get 0 segment (t.hold limit segments).held
      = if Bits.has segment segments = true then limit else Table.get 0 segment t.held := by
  simp [BinTable.hold, Table.get_foldl_insert, Bits.mem_members]

theorem BinTable.rising_hold (limit : Nat) (segments : BitVec 32) {t : BinTable}
    (h : Table.rising none t.held = true) : Table.rising none (t.hold limit segments).held = true :=
  Table.rising_foldl_insert limit _ h

/-- Putting the numbers of a store into a set adds those that the set has room for. -/
theorem Bits.has_foldl_put {α : Type} {n : Nat} (t : Table α) (v : BitVec n) {i : Nat} (hi : i < n) :
    Bits.has i (t.foldl (fun v e => Bits.put e.1 v) v) = (Bits.has i v || Table.has i t) := by
  induction t generalizing v with
  | nil => simp [Table.has]
  | cons e rest ih =>
    rw [List.foldl_cons, ih, Bits.has_put, Table.has_cons]
    simp [hi, Bool.or_assoc]

theorem BinTable.has_heldSet (t : BinTable) {segment : Nat} (h : segment < 32) :
    Bits.has segment t.heldSet = Table.has segment t.held := by
  rw [BinTable.heldSet, Bits.has_foldl_put _ _ h]
  simp [Bits.has]

/-! ## The requests -/

/-- A reply placed after the request's effect on the Bin Table answers that request. -/
theorem State.reply_of_offers {k : RequestKind} {r : Request} {s : State} (h : s.offers k r) (table : BinTable)
    (result : ResultCode) (content : List Octet) :
    ({ s with table := table } : State).reply result content
      = ({ s with table := table } : State).answered k r result content := by
  obtain ⟨-, -, hq, hk, -⟩ := h
  exact State.reply_eq_answered (s := { s with table := table }) hq hk result content

/-- PROTECT of an unlocked unit (R11). -/
theorem exec_protect_unlocked {r : Request} {s : State} (h : s.offers .protect r) (hl : s.mgmt.lock = none) :
    exec .protect s = .next
      (({ s with table := { s.table with protectedSegments := argSegments r.args } } : State).answered .protect r .done
        (beOctets 4 (fieldAt 0 4 r.args))) :=
  calc exec .protect s
    _ = .next (s.unlessLocked (State.serveProtect r.args)) := congrArg _ (State.serve_of_offers h _ _)
    _ = .next (s.serveProtect r.args) := by simp [State.unlessLocked, hl]
    _ = _ := by rw [← beOctets_argSegments]; exact congrArg _ (State.reply_of_offers h _ _ _)

/-- HOLD (R12). -/
theorem exec_hold_of_offers {r : Request} {s : State} (h : s.offers .hold r) :
    let t := { s with table := s.table.hold s.mgmt.params.holdLimit (argSegments r.args) }
    exec .hold s = .next (t.answered .hold r .done t.table.holdContent) :=
  calc exec .hold s
    _ = .next (s.serveHold r.args) := congrArg _ (State.serve_of_offers h _ _)
    _ = _ := congrArg _ (State.reply_of_offers h _ _ _)

/-- RELEASE in its three outcomes (R14). -/
theorem exec_release_of_offers {r : Request} {s : State} (h : s.offers .release r) :
    exec .release s = .next
      (if 31 < (octetAt 0 r.args).toNat then s.answered .release r .badValue []
        else if Table.has (octetAt 0 r.args).toNat s.table.held then
          ({ s with table := s.table.release (octetAt 0 r.args).toNat } : State).answered .release r .done []
        else s.answered .release r .conflict []) := by
  have hserve : exec .release s = .next (s.serveRelease r.args) := congrArg _ (State.serve_of_offers h _ _)
  have hreply (table : BinTable) (result : ResultCode) := State.reply_of_offers h table result []
  rw [hserve, State.serveRelease, fieldAt_zero_one, hreply s.table, hreply, hreply s.table]

/-- HOLD_TIMER_EXPIRY of a held segment (R13). -/
theorem exec_holdTimerExpiry_of_held {segment : Nat} {s : State} (h : Table.has segment s.table.held = true) :
    exec (.holdTimerExpiry segment) s = .next
      (if Table.get 0 segment s.table.held = 0 then { s with table := s.table.release segment } else s) := by
  have hexec : exec (.holdTimerExpiry segment) s = .next (s.takeHoldExpiry segment) := rfl
  simp [hexec, State.takeHoldExpiry, BinTable.timer, h]

/-- Settles O37: each request and the expiry by its own lemma above. -/
theorem segmentsAreProtectedHeldAndReleased : Obligations.SegmentsAreProtectedHeldAndReleased := by
  refine ⟨⟨fun r s h hl => exec_protect_unlocked h hl, fun r s h hr => ?hold⟩, fun segment s hheld => ?ends,
    fun r s h => ⟨fun hbad => ?badValue, fun hle hfree => ?conflict⟩⟩
  case hold =>
    let t := s.table.hold s.mgmt.params.holdLimit (argSegments r.args)
    exact ⟨t.held, t.heldSet, exec_hold_of_offers h, BinTable.rising_hold _ _ hr,
      fun _ hlt => BinTable.has_heldSet t hlt,
      fun segment => ⟨BinTable.has_hold _ _ segment s.table, BinTable.get_hold _ _ segment s.table⟩⟩
  case ends =>
    have hexpiry := exec_holdTimerExpiry_of_held hheld
    refine ⟨fun hzero => ?_, fun hpos => ?_, fun r h hle hseg => ?_⟩
    · rw [hexpiry, if_pos hzero]
      rfl
    · rw [hexpiry, if_neg hpos]
    · subst hseg
      rw [exec_release_of_offers h, if_neg (Nat.not_lt.2 hle), if_pos hheld]
      rfl
  case badValue => rw [exec_release_of_offers h, if_pos hbad]
  case conflict => rw [exec_release_of_offers h, if_neg (Nat.not_lt.2 hle), if_neg (by simp [hfree])]

end Sys2Proof.Machine

/-! From the echoes to the height, and the filter of the raw fill (R62 to R65, R67, R69). -/

namespace Sys2Proof.Machine

/-! ## Echo choice -/

theorem presentEchoes_eq_filter (echoes : List Nat) :
    presentEchoes echoes = echoes.filter fun e => decide (1 ≤ e ∧ e ≤ 30000) := by
  simp only [presentEchoes, Bool.decide_and]

theorem mem_presentEchoes {e : Nat} {echoes : List Nat} :
    e ∈ presentEchoes echoes ↔ e ∈ echoes ∧ 1 ≤ e ∧ e ≤ 30000 := by
  simp [presentEchoes]

/-- Sorting two values: one comparator of a sorting network. -/
theorem perm_min_max (a b : Nat) (l : List Nat) : (a :: b :: l).Perm (min a b :: max a b :: l) := by
  rcases Nat.le_total a b with h | h
  · rw [Nat.min_eq_left h, Nat.max_eq_right h]
  · rw [Nat.min_eq_right h, Nat.max_eq_left h]
    exact .swap b a l

/-- `medianOfThree` is the middle output of the sorting network with comparators (1,2), (2,3), (1,2). -/
theorem perm_medianOfThree (a b c : Nat) :
    [a, b, c].Perm [min (min a b) (min (max a b) c), medianOfThree a b c, max (max a b) c] :=
  calc [a, b, c]
    _ |>.Perm [min a b, max a b, c] := perm_min_max a b [c]
    _ |>.Perm [min a b, min (max a b) c, max (max a b) c] := (perm_min_max (max a b) c []).cons _
    _ |>.Perm [min (min a b) (min (max a b) c), medianOfThree a b c, max (max a b) c] := perm_min_max _ _ _

theorem medianOfThree_between (a b c : Nat) :
    min (min a b) (min (max a b) c) ≤ medianOfThree a b c ∧ medianOfThree a b c ≤ max (max a b) c := by
  unfold medianOfThree
  omega

theorem chooseEcho_eq_none_iff (kind : BinKind) (echoes : List Nat) :
    chooseEcho kind echoes = none ↔ presentEchoes echoes = [] := by
  unfold chooseEcho
  split <;> simp_all

theorem chooseEcho_litter (echoes : List Nat) : chooseEcho .litter echoes = (presentEchoes echoes).head? := by
  unfold chooseEcho
  cases presentEchoes echoes <;> rfl

theorem chooseEcho_glass_one {echoes : List Nat} {a : Nat} (h : presentEchoes echoes = [a]) :
    chooseEcho .glass echoes = some a := by
  simp only [chooseEcho, h]

theorem chooseEcho_glass_two {echoes : List Nat} {a b : Nat} (h : presentEchoes echoes = [a, b]) :
    chooseEcho .glass echoes = some (max a b) := by
  simp only [chooseEcho, h]

theorem chooseEcho_glass_more {echoes rest : List Nat} {a b c : Nat} (h : presentEchoes echoes = a :: b :: c :: rest) :
    chooseEcho .glass echoes = some (medianOfThree a b c) := by
  simp only [chooseEcho, h]

/-- The chosen echo is one of the present ones, whatever the length of the list. -/
theorem mem_presentEchoes_of_chooseEcho {kind : BinKind} {echoes : List Nat} {e : Nat}
    (h : chooseEcho kind echoes = some e) : e ∈ presentEchoes echoes := by
  cases kind with
  | litter => exact List.mem_of_head? (chooseEcho_litter echoes ▸ h)
  | glass =>
    match hp : presentEchoes echoes with
    | [] => simp [(chooseEcho_eq_none_iff .glass echoes).2 hp] at h
    | [a] =>
      obtain rfl : a = e := Option.some.inj (chooseEcho_glass_one hp ▸ h)
      exact List.mem_singleton_self a
    | [a, b] =>
      obtain rfl : max a b = e := Option.some.inj (chooseEcho_glass_two hp ▸ h)
      exact (perm_min_max a b []).mem_iff.2 (by simp)
    | a :: b :: c :: rest =>
      obtain rfl : medianOfThree a b c = e := Option.some.inj (chooseEcho_glass_more hp ▸ h)
      exact List.mem_append_left rest ((perm_medianOfThree a b c).mem_iff.2 (by simp))

/-! ## Temperature, distance and height -/

theorem temperatureUsed_range (field : Int) : -40 ≤ temperatureUsed field ∧ temperatureUsed field ≤ 85 := by
  unfold temperatureUsed
  omega

/-- From -40 °C up the speed factor is positive, so truncation is the floor and the clamp at 0 never acts. -/
theorem distanceOf_eq_min_ediv (echo : Nat) {temperature : Int} (h : -40 ≤ temperature) :
    (distanceOf echo temperature : Int) = min ((echo : Int) * (331300 + 606 * temperature) / 2000000) 4095 := by
  have hspeed : 0 ≤ speedFactor temperature := by
    unfold speedFactor
    omega
  have hproduct : 0 ≤ (echo : Int) * speedFactor temperature := Int.mul_nonneg (Int.natCast_nonneg echo) hspeed
  have hquotient : 0 ≤ (echo : Int) * speedFactor temperature / 2000000 := Int.ediv_nonneg hproduct (by decide)
  rw [distanceOf, Int.tdiv_eq_ediv_of_nonneg hproduct]
  change _ = min ((echo : Int) * speedFactor temperature / 2000000) 4095
  omega

/-- The raise of the distance to 50 mm keeps the height 50 mm below the empty depth. -/
theorem heightOf_le (emptyDepth distance : Nat) : heightOf emptyDepth distance ≤ emptyDepth - 50 :=
  Nat.sub_le_sub_left (Nat.le_max_right distance 50) emptyDepth

/-- Settles O42: the choice by the number of present echoes, then each stage by its lemma above. -/
theorem echoBecomesAHeight : Obligations.EchoBecomesAHeight := by
  refine ⟨fun echoes => ?choice, fun field _ _ => ⟨rfl, temperatureUsed_range field⟩,
    fun echo _ _ _ hcold _ => distanceOf_eq_min_ediv echo hcold,
    fun emptyDepth distance => ⟨rfl, fun hdepth => ?height⟩⟩
  case choice =>
    rw [← presentEchoes_eq_filter]
    refine ⟨fun kind => chooseEcho_eq_none_iff kind echoes, chooseEcho_litter echoes,
      fun a h => chooseEcho_glass_one h, fun a b h => chooseEcho_glass_two h, fun a b c h => ?_,
      fun kind e _ h => mem_presentEchoes.1 (mem_presentEchoes_of_chooseEcho h)⟩
    exact ⟨medianOfThree a b c, chooseEcho_glass_more h, _, _, perm_medianOfThree a b c, medianOfThree_between a b c⟩
  case height =>
    have hle := heightOf_le emptyDepth distance
    omega

/-! ## The step of the filter -/

theorem filterStep_self (value weight : Nat) : filterStep value value weight = 0 := by
  simp [filterStep]

/-- Truncation toward zero and the sign are odd, so a fall is the mirror image of a rise. -/
theorem filterStep_swap (old raw weight : Nat) : filterStep raw old weight = -filterStep old raw weight := by
  have hdelta : (old : Int) - raw = -((raw : Int) - old) := by omega
  simp only [filterStep, hdelta, Int.neg_mul, Int.neg_tdiv, Int.sign_neg, Int.neg_eq_zero]
  split <;> rfl

/-- A rise is by at least 1 and at most up to the raw fill. -/
theorem filterStep_of_lt {old raw weight : Nat} (h : old < raw) (hw : weight ≤ 16) :
    1 ≤ filterStep old raw weight ∧ filterStep old raw weight ≤ (raw : Int) - old := by
  have hdelta : 0 < (raw : Int) - old := by omega
  have hproduct : 0 ≤ ((raw : Int) - old) * weight := Int.mul_nonneg (Int.le_of_lt hdelta) (Int.natCast_nonneg weight)
  have hweighed : ((raw : Int) - old) * weight ≤ ((raw : Int) - old) * 16 :=
    Int.mul_le_mul_of_nonneg_left (by omega) (Int.le_of_lt hdelta)
  simp only [filterStep, Int.tdiv_eq_ediv_of_nonneg hproduct, Int.sign_eq_one_of_pos hdelta]
  split <;> omega

/-- A fall is by at least 1 and at most down to the raw fill. -/
theorem filterStep_of_gt {old raw weight : Nat} (h : raw < old) (hw : weight ≤ 16) :
    (raw : Int) - old ≤ filterStep old raw weight ∧ filterStep old raw weight ≤ -1 := by
  obtain ⟨hlow, hhigh⟩ := filterStep_of_lt h hw
  rw [filterStep_swap raw old weight]
  omega

/-- The full weight takes the whole difference. -/
theorem filterStep_sixteen (old raw : Nat) : filterStep old raw 16 = (raw : Int) - old := by
  have hquotient : (((raw : Int) - old) * (16 : Nat)).tdiv 16 = (raw : Int) - old :=
    Int.mul_tdiv_cancel _ (by decide)
  simp only [filterStep, hquotient]
  split
  case isTrue hzero => rw [hzero, Int.sign_zero]
  case isFalse => rfl

/-! ## The emptied test and the filtered value -/

section Filtered

variable {old raw drop weight : Nat}

theorem filterReading_of_emptying (h : raw + drop ≤ old) :
    filterReading (some old) raw drop weight = (raw, true) := if_pos h

theorem filterReading_of_not_emptying (h : ¬ raw + drop ≤ old) :
    filterReading (some old) raw drop weight = (((old : Int) + filterStep old raw weight).toNat, false) := if_neg h

/-- The filtered value moves toward the raw fill: it lies between the two, stands still only at the raw fill, and
never needs the cut at 0. -/
theorem filterStep_moves_toward (hw : weight ≤ 16) :
    let new := ((old : Int) + filterStep old raw weight).toNat
    (new : Int) = old + filterStep old raw weight
      ∧ min old raw ≤ new ∧ new ≤ max old raw ∧ (new = old ↔ raw = old) := by
  rcases Nat.lt_trichotomy old raw with hrise | rfl | hfall
  · have hstep := filterStep_of_lt hrise hw
    omega
  · simp [filterStep_self]
  · have hstep := filterStep_of_gt hfall hw
    omega

end Filtered

/-- Settles O44: an emptying by the raw fill itself, any other reading by the step of the filter. -/
theorem filterMovesTowardTheRawFill : Obligations.FilterMovesTowardTheRawFill := by
  intro raw drop weight _ _ hw
  refine ⟨rfl, fun old _ _ => ?_⟩
  by_cases hemptying : raw + drop ≤ old
  · rw [filterReading_of_emptying hemptying]
    exact ⟨iff_of_true rfl (by omega), fun _ => rfl, nofun, Nat.min_le_right old raw, Nat.le_max_right old raw, Iff.rfl,
      fun _ => rfl⟩
  · obtain ⟨hvalue, hlow, hhigh, hstill⟩ := filterStep_moves_toward (old := old) (raw := raw) hw
    simp only [filterReading_of_not_emptying hemptying]
    refine ⟨iff_of_false nofun (by omega), nofun, fun _ => hvalue, hlow, hhigh, hstill, ?_⟩
    rintro rfl
    rw [filterStep_sixteen]
    omega

end Sys2Proof.Machine

/-! The level of a bin and its hysteresis (section 5.1, R74). -/

namespace Sys2Proof.Machine

section Judged

variable {f W C H : Nat} {basis : Level}

/-- The table of R74 with the lines of one level taken together: FULL from its threshold or kept within the margin,
then NEAR in the same way, then LOW. -/
theorem judgeLevel_eq_ite (f W C H : Nat) (basis : Level) :
    judgeLevel f W C H basis =
      if C ≤ f ∨ (basis = .full ∧ C ≤ f + H) then .full
      else if W ≤ f ∨ ((basis = .near ∨ basis = .full) ∧ W ≤ f + H) then .near
      else .low := by
  unfold judgeLevel
  by_cases hcollect : C ≤ f
  · rw [if_pos hcollect, if_pos (.inl hcollect)]
  · simp only [hcollect, if_false, false_or]
    by_cases hwarn : W ≤ f
    · simp only [hwarn, if_true, true_or]
    · simp only [hwarn, if_false, false_or]

theorem judgeLevel_eq_full_iff :
    judgeLevel f W C H basis = .full ↔ C ≤ f ∨ (basis = .full ∧ C ≤ f + H) := by
  rw [judgeLevel_eq_ite]
  split
  case isTrue hfull => exact iff_of_true rfl hfull
  case isFalse hfull => exact iff_of_false (by split <;> nofun) hfull

theorem judgeLevel_eq_near_iff :
    judgeLevel f W C H basis = .near ↔
      judgeLevel f W C H basis ≠ .full ∧ (W ≤ f ∨ ((basis = .near ∨ basis = .full) ∧ W ≤ f + H)) := by
  rw [judgeLevel_eq_ite]
  split
  case isTrue => exact iff_of_false nofun fun h => h.1 rfl
  case isFalse =>
    split
    case isTrue hnear => exact iff_of_true rfl ⟨nofun, hnear⟩
    case isFalse hnear => exact iff_of_false nofun fun h => hnear h.2

theorem judgeLevel_ne_unheard : judgeLevel f W C H basis ≠ .unheard := by
  rw [judgeLevel_eq_ite]
  split
  · nofun
  · split <;> nofun

/-- What is left beside UNHEARD, FULL and NEAR is LOW. -/
theorem judgeLevel_eq_low_iff :
    judgeLevel f W C H basis = .low ↔
      judgeLevel f W C H basis ≠ .full ∧ judgeLevel f W C H basis ≠ .near := by
  have hheard : judgeLevel f W C H basis ≠ .unheard := judgeLevel_ne_unheard
  cases hlevel : judgeLevel f W C H basis with
  | unheard => exact absurd hlevel hheard
  | low => exact iff_of_true rfl ⟨nofun, nofun⟩
  | near => exact iff_of_false nofun fun h => h.2 rfl
  | full => exact iff_of_false nofun fun h => h.1 rfl

/-- Neither UNHEARD nor LOW as the basis keeps a level within its margin. -/
theorem judgeLevel_unheard (f W C H : Nat) : judgeLevel f W C H .unheard = judgeLevel f W C H .low := by
  simp only [judgeLevel_eq_ite, reduceCtorEq, or_self, false_and]

end Judged

/-- Settles O46: the bounds on the filtered value are read off the condition of each level. -/
theorem levelIsJudgedWithHysteresis : Obligations.LevelIsJudgedWithHysteresis := by
  intro f W C H basis _ _
  refine ⟨judgeLevel_eq_full_iff, judgeLevel_eq_near_iff, judgeLevel_eq_low_iff, judgeLevel_ne_unheard,
    judgeLevel_unheard f W C H, fun hfull => ?_, fun hnear => ?_, fun hlow => ?_⟩
  · have hreached := judgeLevel_eq_full_iff.mp hfull
    omega
  · obtain ⟨_, hreached⟩ := judgeLevel_eq_near_iff.mp hnear
    omega
  · obtain ⟨hnotFull, _⟩ := judgeLevel_eq_low_iff.mp hlow
    exact Nat.lt_of_not_le fun hreached => hnotFull (judgeLevel_eq_full_iff.mpr (.inl hreached))

end Sys2Proof.Machine

/-! Planner Channels: a channel that runs out of credit, the refill, the REPORT frame and the offers (R101 to R110). -/

namespace Sys2Proof.Machine

/-! ## Exhaustion -/

theorem Channel.exhausted_iff (c : Channel) :
    c.exhausted = true ↔ c.state = .opened ∧ 0 < c.eligible ∧ c.credit = 0 := by
  simp [Channel.exhausted, and_assoc]

/-- What `Reporting.settle` makes of the channel itself (R109, R110). -/
def Channel.settled (now number : Nat) (c : Channel) : Channel :=
  if c.exhausted then { c with state := .starved, creditOut := some (c.frozenCreditOut now number) } else c

@[simp] theorem Reporting.settle_channel_self (r : Reporting) (now n : Nat) :
    (r.settle now n).channel n = (r.channel n).settled now n := by
  rcases r.settle_cases now n with ⟨hex, e⟩ | ⟨hex, e⟩ <;> simp [e, Channel.settled, hex]

/-- Settling raises STARVED exactly for an exhausted channel. -/
theorem Reporting.settle_conditions (r : Reporting) (now n : Nat) :
    (r.settle now n).conditions
      = if (r.channel n).exhausted then r.conditions.raise .starved else r.conditions := by
  rcases r.settle_cases now n with ⟨hex, e⟩ | ⟨hex, e⟩ <;> simp [e, hex]

/-! ## The refill -/

theorem Bits.has_foldl_drop {n : Nat} (zones : List Nat) (v : BitVec n) (z : Nat) :
    Bits.has z (zones.foldl (fun v zone => Bits.drop zone v) v) = (Bits.has z v && !zones.contains z) := by
  induction zones generalizing v with
  | nil => simp
  | cons zone zones ih =>
    rw [List.foldl_cons, ih, Bits.has_drop, List.contains_cons, Bool.not_or, Bool.and_assoc,
      Bool.beq_eq_decide_eq]

/-- The channel after the given owed zones have joined its queue as new summaries. -/
def Channel.paid (zones : List Nat) (c : Channel) : Channel :=
  { c with
    queue := c.queue ++ zones.map fun zone => ⟨.summary zone, false⟩
    owed := zones.foldl (fun v zone => Bits.drop zone v) c.owed }

theorem Channel.paid_nil (c : Channel) : c.paid [] = c := by simp [Channel.paid]

theorem Channel.paid_cons (zone : Nat) (zones : List Nat) (c : Channel) :
    c.paid (zone :: zones) = (({ c with owed := Bits.drop zone c.owed }).join (.summary zone)).paid zones := by
  simp [Channel.paid, Channel.join]

theorem Channel.payOne_of_owed {zone : Nat} {c : Channel} (howed : Bits.has zone c.owed = true)
    (hroom : c.queue.length < 64) :
    c.payOne zone = ({ c with owed := Bits.drop zone c.owed }).join (.summary zone) := by
  simp [Channel.payOne, howed, hroom]

theorem Channel.payOne_of_not_owed {zone : Nat} {c : Channel} (howed : ¬ Bits.has zone c.owed = true) :
    c.payOne zone = c := by
  simp [Channel.payOne, howed]

theorem Channel.payOne_of_full {zone : Nat} {c : Channel} (hfull : ¬ c.queue.length < 64) : c.payOne zone = c := by
  simp [Channel.payOne, hfull]

/-- Paying a list of zones in turn pays its owed zones, as far as the room reaches (R104). -/
theorem Channel.foldl_payOne {zones : List Nat} (hnodup : zones.Nodup) (c : Channel) :
    zones.foldl Channel.payOne c
      = c.paid ((zones.filter fun zone => Bits.has zone c.owed).take (64 - c.queue.length)) := by
  induction zones generalizing c with
  | nil => simp [Channel.paid_nil]
  | cons zone zones ih =>
    obtain ⟨hfresh, hrest⟩ := List.nodup_cons.1 hnodup
    rw [List.foldl_cons]
    by_cases hroom : c.queue.length < 64
    case neg =>
      have hnone : 64 - c.queue.length = 0 := by omega
      rw [Channel.payOne_of_full hroom, ih hrest, hnone, List.take_zero, List.take_zero]
    case pos =>
      by_cases howed : Bits.has zone c.owed = true
      case neg =>
        rw [Channel.payOne_of_not_owed howed, ih hrest,
          List.filter_cons_of_neg (p := fun y => Bits.has y c.owed) howed]
      case pos =>
        have hothers : (zones.filter fun y => Bits.has y (Bits.drop zone c.owed))
            = zones.filter fun y => Bits.has y c.owed :=
          List.filter_congr fun y hy => by
            have hne : y ≠ zone := fun e => hfresh (e ▸ hy)
            simp [Bits.has_drop, hne]
        have hless : 64 - c.queue.length = (64 - (c.queue.length + 1)) + 1 := by omega
        rw [Channel.payOne_of_owed howed hroom, ih hrest,
          List.filter_cons_of_pos (p := fun y => Bits.has y c.owed) howed, hless, List.take_succ_cons,
          Channel.paid_cons, ← hothers]
        simp [Channel.join]

/-- The refill pays the lowest owed zones that the queue has room for (R104). -/
theorem Channel.refill_eq_paid (c : Channel) :
    c.refill = c.paid ((Bits.members c.owed).take (64 - c.queue.length)) :=
  Channel.foldl_payOne List.nodup_range c

/-! ## The REPORT frame -/

/-- A granted channel is the first source of own frames (R140). -/
theorem State.ownSource_of_egressGrant {s : State} {n : Nat} (h : s.egressGrant = some (.channel n)) :
    s.ownSource = some (.channel n) := by
  unfold State.egressGrant at h
  split at h
  case h_1 => contradiction
  case h_2 own hown _ => exact hown.trans h
  case h_3 => simp at h
  case h_4 own _ _ hown _ =>
    split at h
    · simp at h
    · exact hown.trans h

/-- The arbiter grants a channel only while its frame request stands (R107, R141). -/
theorem State.requests_of_egressGrant {s : State} {n : Nat} (h : s.egressGrant = some (.channel n)) :
    (s.report.channel n).requests = true := by
  have hown := State.ownSource_of_egressGrant h
  simp only [State.ownSource] at hown
  split at hown
  · simp at hown
  · split at hown
    · simp at hown
    · split at hown
      · simp at hown
      · obtain ⟨m, hfound, hm⟩ := Option.map_eq_some_iff.1 hown
        obtain rfl : m = n := EgressSource.channel.inj hm
        exact List.find?_some (p := fun i => (s.report.channel i).requests) hfound

/-- Without a pending CREDIT-OUT, a standing request is one for a REPORT frame (R107). -/
theorem Channel.requests_iff {c : Channel} (h : c.creditOut = none) :
    c.requests = true ↔ c.state = .opened ∧ 0 < c.eligible ∧ 0 < c.credit := by
  simp [Channel.requests, h, and_assoc]

theorem Channel.eligible_le_length (c : Channel) : c.eligible ≤ c.queue.length := by
  unfold Channel.eligible
  split
  · exact Nat.le_refl _
  · exact List.length_filter_le _ _

theorem Channel.length_take_taken (c : Channel) : (c.queue.take c.taken).length = c.taken := by
  have hle := c.eligible_le_length
  rw [List.length_take, Channel.taken]
  omega

/-- The record octets of the entries taken follow one another in the frame. -/
theorem State.reportFrameFor_eq (n : Nat) (s : State) :
    let c := s.report.channel n
    s.reportFrameFor n =
      { cls := 0x20
        payload :=
          beOctets 2 c.destination ++ beOctets 1 n ++ beOctets 4 s.now ++ beOctets 1 (c.credit - 1)
            ++ beOctets 1 c.taken ++ (c.queue.take c.taken).flatMap s.report.recordOctets } := by
  simp only [State.reportFrameFor, reportFrameOf, List.length_map, Channel.length_take_taken, List.flatMap_def]
  rfl

/-- REPORT_FRAME with a grant and no CREDIT-OUT pending. -/
theorem exec_reportFrame_of_grant {n : Nat} {s : State} (hgrant : s.egressGrant = some (.channel n))
    (hout : (s.report.channel n).creditOut = none) :
    exec .reportFrame s = .next
      (((((s.onReport fun r => (r.setChannel n (s.report.channel n).sent).settle s.now n).count .reportFrame 1).sendTrunk
        (s.reportFrameFor n)).grantedClass .own).grantedChannel n) := by
  have hexec : exec .reportFrame s = execReportFrame s := rfl
  simp only [hexec, execReportFrame, hgrant, hout]

/-- A channel that was OPEN with credit starves by its REPORT frame when it spends the last credit with an eligible
entry left (R109). -/
theorem Channel.sent_exhausted {c : Channel} (hopen : c.state = .opened) (hcredit : 1 ≤ c.credit) :
    c.sent.exhausted = (decide (c.credit = 1) && decide (0 < c.sent.eligible)) := by
  have hstate : c.sent.state = .opened := by rw [Channel.sent, Channel.refill_eq_paid]; exact hopen
  have hleft : c.sent.credit = c.credit - 1 := by rw [Channel.sent, Channel.refill_eq_paid]; rfl
  have hzero : c.credit - 1 = 0 ↔ c.credit = 1 := by omega
  rw [Bool.eq_iff_iff, Channel.exhausted_iff, hstate, hleft, hzero]
  simp [and_comm]

/-- Settles O24: the frame by its layout, the channel by the refill and the exhaustion. -/
theorem reportFrameIsFormed : Obligations.ReportFrameIsFormed := by
  intro n s hgrant hout c k left paid queue starves
  obtain ⟨hopen, heligible, hcredit⟩ := (Channel.requests_iff hout).1 (State.requests_of_egressGrant hgrant)
  have hsent : c.sent =
      { c with
        credit := c.credit - 1, queue := queue, owed := paid.foldl (fun v zone => Bits.drop zone v) c.owed } :=
    Channel.refill_eq_paid _
  have hstarves : c.sent.exhausted = starves := by
    rw [Channel.sent_exhausted hopen hcredit, hsent]
    rfl
  refine ⟨_, _, exec_reportFrame_of_grant hgrant hout, ?_, hcredit, ?trunk, ?channel,
    fun z _ => Bits.has_foldl_drop paid c.owed z, fun m hm => ?others, ?conditions, ?frame⟩
  · exact Nat.le_min.2 ⟨by decide, heligible⟩
  case trunk =>
    simp only [State.grantedChannel_trunk, State.grantedClass_trunk, State.sendTrunk_trunk, State.count_trunk,
      State.onReport_trunk, State.reportFrameFor_eq]
    rfl
  case channel =>
    calc _ = c.sent.settled s.now n := by simp [c]
      _ = _ := by
        rw [Channel.settled, hstarves, hsent]
        cases starves
        · simp [c, hopen, hout]
        · rfl
  case others =>
    simp [Reporting.settle_channel_other _ _ hm, Reporting.setChannel_channel, hm]
  case conditions =>
    simp [Reporting.settle_conditions, ← hstarves, c]
  case frame =>
    intro p hp
    cases p with
    | trunk | channels | counters | conditions => simp at hp
    | _ => simp [State.same, Reporting.tally]

/-! ## Offers to the eight channels -/

section ChannelByChannel

variable {f : Reporting → Nat → Reporting}

/-- A step that changes one channel at a time reaches every listed channel once, in the state it had at first. -/
theorem foldl_channel {g : Nat → Channel → Channel} (hself : ∀ r n, (f r n).channel n = g n (r.channel n))
    (hother : ∀ r n m, m ≠ n → (f r n).channel m = r.channel m) {numbers : List Nat} (hnodup : numbers.Nodup)
    (r : Reporting) (n : Nat) :
    (numbers.foldl f r).channel n = if n ∈ numbers then g n (r.channel n) else r.channel n := by
  induction numbers generalizing r with
  | nil => simp
  | cons k numbers ih =>
    obtain ⟨hfresh, hrest⟩ := List.nodup_cons.1 hnodup
    rw [List.foldl_cons, ih hrest]
    by_cases hn : n = k
    · subst hn
      simp [hfresh, hself]
    · simp [hn, hother r k n hn]

/-- A flag is raised by such a pass exactly when one of the channels, in the state it had at first, raises it. -/
theorem foldl_raised {flag : Flag} {raises : Channel → Prop}
    (hother : ∀ r n m, m ≠ n → (f r n).channel m = r.channel m)
    (hraise : ∀ r n, Bits.has flag.index (f r n).conditions.raised = true ↔
      raises (r.channel n) ∨ Bits.has flag.index r.conditions.raised = true)
    {numbers : List Nat} (hnodup : numbers.Nodup) (r : Reporting) :
    Bits.has flag.index (numbers.foldl f r).conditions.raised = true ↔
      (∃ n ∈ numbers, raises (r.channel n)) ∨ Bits.has flag.index r.conditions.raised = true := by
  induction numbers generalizing r with
  | nil => simp
  | cons k numbers ih =>
    obtain ⟨hfresh, hrest⟩ := List.nodup_cons.1 hnodup
    have hlater : (∃ n ∈ numbers, raises ((f r k).channel n)) ↔ ∃ n ∈ numbers, raises (r.channel n) := by
      refine exists_congr fun n => and_congr_right fun hn => ?_
      rw [hother r k n fun e => hfresh (e ▸ hn)]
    have hfirst : (∃ n ∈ k :: numbers, raises (r.channel n)) ↔
        raises (r.channel k) ∨ ∃ n ∈ numbers, raises (r.channel n) := by
      simp only [List.mem_cons, or_and_right, exists_or, exists_eq_left]
    rw [List.foldl_cons, ih hrest, hlater, hraise, hfirst, or_left_comm, or_assoc]

end ChannelByChannel

theorem nodup_channelNumbers : channelNumbers.Nodup := by decide

theorem mem_channelNumbers {n : Nat} : n ∈ channelNumbers ↔ n < 8 := by
  simp only [channelNumbers, List.mem_cons, List.not_mem_nil, or_false]
  omega

theorem Channel.serves_iff (zone : Nat) (c : Channel) :
    c.serves zone = true ↔ c.state ≠ .closed ∧ Bits.has zone c.zones = true := by
  simp [Channel.serves]

/-! ### A triggered zone -/

/-- One channel after the offer of a zone (R102, R109). -/
def Channel.offeredZone (now zone number : Nat) (c : Channel) : Channel :=
  if c.serves zone then (c.takeZone zone).settled now number else c

theorem Reporting.offerZoneTo_channel_self (now zone : Nat) (r : Reporting) (n : Nat) :
    (r.offerZoneTo now zone n).channel n = (r.channel n).offeredZone now zone n := by
  simp only [Reporting.offerZoneTo, Channel.offeredZone]
  split <;> simp

theorem Reporting.offerZoneTo_channel_other (now zone : Nat) (r : Reporting) (n m : Nat) (h : m ≠ n) :
    (r.offerZoneTo now zone n).channel m = r.channel m := by
  simp only [Reporting.offerZoneTo]
  split
  · rw [Reporting.settle_channel_other _ _ h, Reporting.setChannel_channel, if_neg h]
  · rfl

theorem Reporting.offerZone_channel (now zone : Nat) (r : Reporting) {n : Nat} (h : n < 8) :
    (r.offerZone now zone).channel n = (r.channel n).offeredZone now zone n := by
  rw [Reporting.offerZone, foldl_channel (Reporting.offerZoneTo_channel_self now zone)
    (Reporting.offerZoneTo_channel_other now zone) nodup_channelNumbers, if_pos (mem_channelNumbers.2 h)]

@[simp] theorem Channel.takeZone_state (zone : Nat) (c : Channel) : (c.takeZone zone).state = c.state := by
  unfold Channel.takeZone
  split <;> rfl

/-- A channel starves by the offer of a zone when it serves the zone and is exhausted once it has taken it. -/
theorem Channel.offeredZone_starves_iff (now zone n : Nat) (c : Channel) :
    c.state ≠ .starved ∧ (c.offeredZone now zone n).state = .starved ↔
      c.serves zone = true ∧ (c.takeZone zone).exhausted = true := by
  by_cases hserves : c.serves zone = true
  case neg => simp [Channel.offeredZone, hserves]
  case pos =>
    by_cases hex : (c.takeZone zone).exhausted = true
    · obtain ⟨hopen, -, -⟩ := (Channel.exhausted_iff _).1 hex
      rw [Channel.takeZone_state] at hopen
      simp [Channel.offeredZone, Channel.settled, hserves, hex, hopen]
    · simp [Channel.offeredZone, Channel.settled, hserves, hex]

theorem Reporting.offerZoneTo_raised_starved (now zone : Nat) (r : Reporting) (n : Nat) :
    Bits.has Flag.starved.index (r.offerZoneTo now zone n).conditions.raised = true ↔
      ((r.channel n).serves zone = true ∧ ((r.channel n).takeZone zone).exhausted = true)
        ∨ Bits.has Flag.starved.index r.conditions.raised = true := by
  by_cases hserves : (r.channel n).serves zone = true
  case neg => simp [Reporting.offerZoneTo, hserves]
  case pos =>
    by_cases hex : ((r.channel n).takeZone zone).exhausted = true <;>
      simp [Reporting.offerZoneTo, Reporting.settle_conditions, ConditionUnit.raise_raised, hserves, hex]

/-- The offer of a zone raises STARVED exactly when it starves a channel. -/
theorem Reporting.offerZone_raised_starved (now zone : Nat) (r : Reporting) :
    Bits.has Flag.starved.index (r.offerZone now zone).conditions.raised = true ↔
      (∃ n < 8, (r.channel n).state ≠ .starved ∧ ((r.offerZone now zone).channel n).state = .starved)
        ∨ Bits.has Flag.starved.index r.conditions.raised = true := by
  rw [Reporting.offerZone, foldl_raised (raises := fun c => c.serves zone = true ∧ (c.takeZone zone).exhausted = true)
    (Reporting.offerZoneTo_channel_other now zone) (Reporting.offerZoneTo_raised_starved now zone)
    nodup_channelNumbers, ← Reporting.offerZone]
  refine or_congr_left (exists_congr fun n => ?_)
  rw [mem_channelNumbers]
  refine and_congr_right fun hn => ?_
  rw [Reporting.offerZone_channel now zone r hn, Channel.offeredZone_starves_iff]

/-! ### A notice -/

/-- One channel after the offer of a notice (R103, R109). -/
def Channel.offeredNotice (now : Nat) (notice : Notice) (number : Nat) (c : Channel) : Channel :=
  if c.serves notice.zone then
    if c.queue.length < 64 then (c.join (.notice notice)).settled now number
    else { c with lost := min (c.lost + 1) 65535 }
  else c

theorem Reporting.offerNoticeTo_channel_self (now : Nat) (notice : Notice) (r : Reporting) (n : Nat) :
    (r.offerNoticeTo now notice n).channel n = (r.channel n).offeredNotice now notice n := by
  simp only [Reporting.offerNoticeTo, Channel.offeredNotice]
  split
  · split <;> simp
  · rfl

theorem Reporting.offerNoticeTo_channel_other (now : Nat) (notice : Notice) (r : Reporting) (n m : Nat) (h : m ≠ n) :
    (r.offerNoticeTo now notice n).channel m = r.channel m := by
  simp only [Reporting.offerNoticeTo]
  split
  · split
    · rw [Reporting.settle_channel_other _ _ h, Reporting.setChannel_channel, if_neg h]
    · rw [Reporting.raise_channel, Reporting.setChannel_channel, if_neg h]
  · rfl

theorem Reporting.offerNotice_channel (now : Nat) (notice : Notice) (r : Reporting) {n : Nat} (h : n < 8) :
    (r.offerNotice now notice).channel n = (r.channel n).offeredNotice now notice n := by
  rw [Reporting.offerNotice, foldl_channel (Reporting.offerNoticeTo_channel_self now notice)
    (Reporting.offerNoticeTo_channel_other now notice) nodup_channelNumbers, if_pos (mem_channelNumbers.2 h)]

/-- Settling raises no flag but STARVED. -/
theorem Reporting.settle_raised_other {flag : Flag} (h : flag ≠ .starved) (r : Reporting) (now n : Nat) :
    Bits.has flag.index (r.settle now n).conditions.raised = Bits.has flag.index r.conditions.raised := by
  rw [Reporting.settle_conditions]
  split
  · simp [ConditionUnit.raise_raised, h]
  · rfl

theorem Reporting.offerNoticeTo_raised_reportLost (now : Nat) (notice : Notice) (r : Reporting) (n : Nat) :
    Bits.has Flag.reportLost.index (r.offerNoticeTo now notice n).conditions.raised = true ↔
      ((r.channel n).serves notice.zone = true ∧ 64 ≤ (r.channel n).queue.length)
        ∨ Bits.has Flag.reportLost.index r.conditions.raised = true := by
  by_cases hserves : (r.channel n).serves notice.zone = true
  case neg => simp [Reporting.offerNoticeTo, hserves]
  case pos =>
    by_cases hroom : (r.channel n).queue.length < 64
    · simp [Reporting.offerNoticeTo, Reporting.settle_raised_other, hserves, hroom, Nat.not_le.2 hroom]
    · simp [Reporting.offerNoticeTo, ConditionUnit.raise_raised, hserves, hroom, Nat.le_of_not_lt hroom]

/-- The offer of a notice raises REPORT-LOST exactly when a channel that serves its zone has no room for it. -/
theorem Reporting.offerNotice_raised_reportLost (now : Nat) (notice : Notice) (r : Reporting) :
    Bits.has Flag.reportLost.index (r.offerNotice now notice).conditions.raised = true ↔
      (∃ n < 8, (r.channel n).serves notice.zone = true ∧ 64 ≤ (r.channel n).queue.length)
        ∨ Bits.has Flag.reportLost.index r.conditions.raised = true := by
  rw [Reporting.offerNotice,
    foldl_raised (raises := fun c => c.serves notice.zone = true ∧ 64 ≤ c.queue.length)
      (Reporting.offerNoticeTo_channel_other now notice) (Reporting.offerNoticeTo_raised_reportLost now notice)
      nodup_channelNumbers]
  simp only [mem_channelNumbers]

/-! ### The cases of an offer -/

theorem Channel.hasSummary_iff (zone : Nat) (c : Channel) :
    c.hasSummary zone = true ↔ (⟨.summary zone, false⟩ : Entry) ∈ c.queue ∨ (⟨.summary zone, true⟩ : Entry) ∈ c.queue := by
  rw [Channel.hasSummary, List.any_eq_true]
  constructor
  · rintro ⟨⟨item, due⟩, hmem, hitem⟩
    obtain rfl : item = .summary zone := by simpa using hitem
    cases due
    · exact .inl hmem
    · exact .inr hmem
  · rintro (hmem | hmem)
    · exact ⟨_, hmem, beq_self_eq_true _⟩
    · exact ⟨_, hmem, beq_self_eq_true _⟩

/-- The four cases of R102 in one equation. -/
theorem Channel.takeZone_eq_ite (zone : Nat) (c : Channel) :
    c.takeZone zone =
      if c.hasSummary zone = true ∨ Bits.has zone c.owed = true then c
      else if c.queue.length < 64 then c.join (.summary zone)
      else { c with owed := Bits.put zone c.owed } := by
  unfold Channel.takeZone Channel.judgeZone
  by_cases hqueued : c.hasSummary zone = true
  · simp [hqueued]
  · by_cases howed : Bits.has zone c.owed = true
    · simp [hqueued, howed]
    · by_cases hroom : c.queue.length < 64 <;> simp [hqueued, howed, hroom]

/-- Settles O50: each channel by its own offer, each flag by the pass over the channels. -/
theorem offersAreTakenByServingChannels : Obligations.OffersAreTakenByServingChannels := by
  intro now n zone notice r hn c serves settled known
  have hsettled (d : Channel) : d.settled now n = settled d := by
    simp only [Channel.settled, Channel.exhausted_iff]
    rfl
  have hserves (z : Nat) : c.serves z = true ↔ serves z := Channel.serves_iff z c
  have hknown : (c.hasSummary zone = true ∨ Bits.has zone c.owed = true) ↔ known := by
    rw [Channel.hasSummary_iff, or_assoc]
  refine ⟨?zoneTaken, ?noticeTaken, fun hclear => ?starved, fun hclear => ?reportLost⟩
  case zoneTaken =>
    rw [Reporting.offerZone_channel now zone r hn, Channel.offeredZone]
    by_cases hs : serves zone
    case neg => rw [if_neg (mt (hserves zone).1 hs), if_pos hs]
    case pos =>
      rw [if_pos ((hserves zone).2 hs), if_neg (not_not_intro hs), hsettled, Channel.takeZone_eq_ite,
        apply_ite settled, apply_ite settled]
      exact ite_congr (propext hknown) (fun _ => rfl) (fun _ => rfl)
  case noticeTaken =>
    rw [Reporting.offerNotice_channel now notice r hn, Channel.offeredNotice]
    by_cases hs : serves notice.zone
    case neg => rw [if_neg (mt (hserves notice.zone).1 hs), if_pos hs]
    case pos =>
      rw [if_pos ((hserves notice.zone).2 hs), if_neg (not_not_intro hs), hsettled]
      rfl
  case starved =>
    rw [Reporting.offerZone_raised_starved, hclear]
    simp
  case reportLost =>
    rw [Reporting.offerNotice_raised_reportLost, hclear]
    simp [Channel.serves_iff, and_assoc]

end Sys2Proof.Machine

/-! What each command can change: the parts of the state that it leaves exactly as they were, said once for every
shared operation and once for every command. -/

namespace Sys2Proof.Machine

/-- Equivalent conditions choose the same of two values. -/
theorem ite_of_iff {α : Type} {p q : Prop} [Decidable p] [Decidable q] (h : p ↔ q) (x y : α) :
    (if p then x else y) = if q then x else y := by
  by_cases hp : p
  · rw [if_pos hp, if_pos (h.1 hp)]
  · rw [if_neg hp, if_neg (mt h.2 hp)]

/-! ## Parts left as they were -/

/-- A part of the state is the same in two states, its numbered stores entry for entry. -/
def State.agrees (s t : State) : Part → Prop
  | .field => t.field = s.field
  | .trunk => t.trunk = s.trunk
  | .filter => t.filter = s.filter
  | .reader => t.reader = s.reader
  | .bins => t.table.bins = s.table.bins
  | .segments => t.table.protectedSegments = s.table.protectedSegments ∧ t.table.held = s.table.held
  | .park => t.table.park = s.table.park
  | .port => t.table.lastGrant = s.table.lastGrant
  | .curves => t.curves = s.curves
  | .tallies => t.report.zones = s.report.zones
  | .channels => t.report.channels = s.report.channels
  | .boundary => t.report.boundary = s.report.boundary
  | .conditions => { t.report.conditions with counters := [] } = { s.report.conditions with counters := [] }
  | .counters => t.report.conditions.counters = s.report.conditions.counters
  | .sweep => t.sweep = s.sweep
  | .mgmt => t.mgmt = s.mgmt
  | .test => t.test = s.test
  | .freeCount => t.freeCount = s.freeCount
  | .pending => t.pending = s.pending

/-- Every part but those listed is left exactly as it was. -/
def State.leavesBut (changed : List Part) (s t : State) : Prop := ∀ p, p ∉ changed → s.agrees t p

theorem State.agrees_refl (s : State) (p : Part) : s.agrees s p := by
  cases p with
  | segments => exact ⟨rfl, rfl⟩
  | _ => rfl

theorem State.agrees_trans {s t u : State} {p : Part} (h : s.agrees t p) (g : t.agrees u p) : s.agrees u p := by
  cases p with
  | segments => exact ⟨g.1.trans h.1, g.2.trans h.2⟩
  | _ => exact Eq.trans g h

/-- Parts left exactly as they were are the same in the words of the statements. -/
theorem State.same_of_agrees {s t : State} {p : Part} (h : s.agrees t p) : s.same t p := by
  cases p with
  | bins => exact fun n => congrArg (Table.get Bin.reset n) h
  | tallies => exact fun z => congrArg (Table.get Tally.zero z) h
  | channels => exact fun n => congrArg (Table.get Channel.reset n) h
  | counters => exact fun c => congrArg (Table.get Counter.zero c.index) h
  | curves =>
    have hcurves : t.curves = s.curves := h
    exact ⟨by rw [hcurves], fun bank n => by rw [hcurves]⟩
  | _ => exact h

theorem State.keepsAllBut_of_leavesBut {changed : List Part} {s t : State} (h : s.leavesBut changed t) :
    s.keepsAllBut changed t := fun p hp => State.same_of_agrees (h p hp)

section Leaves

variable {L M : List Part} {s t u : State}

theorem State.leavesBut_refl (L : List Part) (s : State) : s.leavesBut L s := fun p _ => s.agrees_refl p

theorem State.leavesBut_trans (h : s.leavesBut L t) (g : t.leavesBut L u) : s.leavesBut L u :=
  fun p hp => State.agrees_trans (h p hp) (g p hp)

theorem State.leavesBut_mono (h : s.leavesBut L t) (hLM : L ⊆ M) : s.leavesBut M t :=
  fun p hp => h p fun hin => hp (hLM hin)

/-- One step more, which changes only listed parts. -/
theorem State.leavesBut_step (h : s.leavesBut L t) (g : t.leavesBut M u) (hML : M ⊆ L) : s.leavesBut L u :=
  State.leavesBut_trans h (State.leavesBut_mono g hML)

end Leaves

/-! ## The shared operations -/

section Operations

variable (s : State)

theorem State.count_leaves (c : Ctr) (n : Nat) : s.leavesBut [.counters] (s.count c n) := by
  intro p hp
  cases p with
  | counters => simp at hp
  | segments => exact ⟨rfl, rfl⟩
  | _ => rfl

theorem State.raise_leaves (f : Flag) : s.leavesBut [.conditions] (s.raise f) := by
  intro p hp
  cases p with
  | conditions => simp at hp
  | segments => exact ⟨rfl, rfl⟩
  | counters => exact ConditionUnit.raise_counters _ _
  | _ => rfl

theorem State.onFilter_leaves (f : ArrivalFilter → ArrivalFilter) : s.leavesBut [.filter] (s.onFilter f) := by
  intro p hp
  cases p with
  | filter => simp at hp
  | segments => exact ⟨rfl, rfl⟩
  | _ => rfl

theorem State.onMgmt_leaves (f : ManagementUnit → ManagementUnit) : s.leavesBut [.mgmt] (s.onMgmt f) := by
  intro p hp
  cases p with
  | mgmt => simp at hp
  | segments => exact ⟨rfl, rfl⟩
  | _ => rfl

theorem State.onSweep_leaves (f : SweepEngine → SweepEngine) : s.leavesBut [.sweep] (s.onSweep f) := by
  intro p hp
  cases p with
  | sweep => simp at hp
  | segments => exact ⟨rfl, rfl⟩
  | _ => rfl

theorem State.onTest_leaves (f : TestGenerator → TestGenerator) : s.leavesBut [.test] (s.onTest f) := by
  intro p hp
  cases p with
  | test => simp at hp
  | segments => exact ⟨rfl, rfl⟩
  | _ => rfl

theorem State.readerTo_leaves (r : ReadingUnit) : s.leavesBut [.reader] (s.readerTo r) := by
  intro p hp
  cases p with
  | reader => simp at hp
  | segments => exact ⟨rfl, rfl⟩
  | _ => rfl

theorem State.granted_leaves (r : Requester) : s.leavesBut [.port] (s.granted r) := by
  intro p hp
  cases p with
  | port => simp at hp
  | segments => exact ⟨rfl, rfl⟩
  | _ => rfl

theorem State.setBin_leaves (n : Nat) (b : Bin) : s.leavesBut [.bins] (s.setBin n b) := by
  intro p hp
  cases p with
  | bins => simp at hp
  | segments => exact ⟨rfl, rfl⟩
  | _ => rfl

theorem State.setChannel_leaves (n : Nat) (c : Channel) : s.leavesBut [.channels] (s.setChannel n c) := by
  intro p hp
  cases p with
  | channels => simp at hp
  | segments => exact ⟨rfl, rfl⟩
  | _ => rfl

theorem State.onConditions_leaves (f : ConditionUnit → ConditionUnit) :
    s.leavesBut [.conditions, .counters] (s.onConditions f) := by
  intro p hp
  cases p with
  | conditions | counters => simp at hp
  | segments => exact ⟨rfl, rfl⟩
  | _ => rfl

/-- A change of the three reporting blocks that leaves the pace boundary. -/
theorem State.onReport_leaves {f : Reporting → Reporting} (h : (f s.report).boundary = s.report.boundary) :
    s.leavesBut [.tallies, .channels, .conditions, .counters] (s.onReport f) := by
  intro p hp
  cases p with
  | tallies | channels | conditions | counters => simp at hp
  | segments => exact ⟨rfl, rfl⟩
  | boundary => exact h
  | _ => rfl

theorem State.withCurves_leaves (c : CurveStore) : s.leavesBut [.curves] { s with curves := c } := by
  intro p hp
  cases p with
  | curves => simp at hp
  | segments => exact ⟨rfl, rfl⟩
  | _ => rfl

theorem State.withField_leaves (f : FieldLink) : s.leavesBut [.field] { s with field := f } := by
  intro p hp
  cases p with
  | field => simp at hp
  | segments => exact ⟨rfl, rfl⟩
  | _ => rfl

theorem State.withTrunk_leaves (k : TrunkLink) : s.leavesBut [.trunk] { s with trunk := k } := by
  intro p hp
  cases p with
  | trunk => simp at hp
  | segments => exact ⟨rfl, rfl⟩
  | _ => rfl

theorem State.withTest_leaves (g : TestGenerator) : s.leavesBut [.test] { s with test := g } := by
  intro p hp
  cases p with
  | test => simp at hp
  | segments => exact ⟨rfl, rfl⟩
  | _ => rfl

theorem State.withFreeCount_leaves (n : Nat) : s.leavesBut [.freeCount] { s with freeCount := n } := by
  intro p hp
  cases p with
  | freeCount => simp at hp
  | segments => exact ⟨rfl, rfl⟩
  | _ => rfl

theorem State.withSegments_leaves (protect : BitVec 32) (held : Table Nat) (park : List Parked) :
    s.leavesBut [.segments, .park]
      { s with table := { s.table with protectedSegments := protect, held := held, park := park } } := by
  intro p hp
  cases p with
  | segments | park => simp at hp
  | _ => rfl

end Operations

/-! ## Reporting -/

@[simp] theorem Reporting.offerZone_boundary (r : Reporting) (now zone : Nat) :
    (r.offerZone now zone).boundary = r.boundary :=
  foldl_keeps Reporting.boundary _
    (fun r n => by
      simp only [Reporting.offerZoneTo]
      split
      · simp
      · rfl) _ _

@[simp] theorem Reporting.offerNotice_boundary (r : Reporting) (now : Nat) (x : Notice) :
    (r.offerNotice now x).boundary = r.boundary :=
  foldl_keeps Reporting.boundary _
    (fun r n => by
      simp only [Reporting.offerNoticeTo]
      split
      · split <;> simp
      · rfl) _ _

@[simp] theorem Reporting.notify_boundary (r : Reporting) (now : Nat) (selected : Bool) (x : Notice) :
    (r.notify now selected x).boundary = r.boundary := by
  simp only [Reporting.notify]
  split <;> simp

@[simp] theorem Reporting.testZone_boundary (now step : Nat) (before : Table Tally) (r : Reporting) (zone : Nat) :
    (Reporting.testZone now step before r zone).boundary = r.boundary := by
  simp only [Reporting.testZone]
  split <;> simp

@[simp] theorem Reporting.changeTally_boundary (zone : Option Nat) (f : Tally → Tally) (r : Reporting) :
    (r.changeTally zone f).boundary = r.boundary := by
  cases zone <;> rfl

@[simp] theorem Reporting.applyChange_boundary (r : Reporting) (now step : Nat) (old new : Contribution) :
    (r.applyChange now step old new).boundary = r.boundary := by
  unfold Reporting.applyChange
  split
  · rfl
  · rw [foldl_keeps Reporting.boundary _ (fun _ _ => Reporting.testZone_boundary _ _ _ _ _)]
    simp [Reporting.moveContribution]

section Reports

variable (s : State)

theorem State.postChange_leaves (old new : FillState) :
    s.leavesBut [.tallies, .channels, .conditions, .counters] (s.postChange old new) :=
  s.onReport_leaves (Reporting.applyChange_boundary _ _ _ _ _)

theorem State.notify_leaves (selection : BitVec 6) (bin : Nat) (kind : Option BinKind) (test : Bool) (g : FillState)
    (k : NoticeKind) : s.leavesBut [.channels, .conditions, .counters] (s.notify selection bin kind test g k) := by
  unfold State.notify
  split
  · exact s.leavesBut_refl _
  · intro p hp
    cases p with
    | channels | conditions | counters => simp at hp
    | segments => exact ⟨rfl, rfl⟩
    | tallies => exact Reporting.notify_zones _ _ _ _
    | boundary => exact Reporting.notify_boundary _ _ _ _
    | _ => rfl

theorem State.foldl_notify_leaves (kinds : List NoticeKind) (selection : BitVec 6) (bin : Nat) (kind : Option BinKind)
    (test : Bool) (g : FillState) :
    s.leavesBut [.channels, .conditions, .counters] (kinds.foldl (State.notify selection bin kind test g) s) := by
  induction kinds generalizing s with
  | nil => exact s.leavesBut_refl _
  | cons k kinds ih => exact State.leavesBut_trans (s.notify_leaves selection bin kind test g k) (ih _)

theorem State.enterFault_leaves (n : Nat) (test : Bool) :
    s.leavesBut [.bins, .tallies, .channels, .conditions, .counters] (s.enterFault n test) := by
  unfold State.enterFault
  dsimp only
  split
  · exact State.leavesBut_step (State.leavesBut_step (State.leavesBut_mono (s.setBin_leaves _ _) (by decide))
      (State.postChange_leaves _ _ _) (by decide)) (State.notify_leaves _ _ _ _ _ _ _) (by decide)
  · exact s.leavesBut_refl _

theorem State.access_leaves (kind : AccessKind) (test : Bool) (n : Nat) (w : Wear) :
    s.leavesBut [.bins, .tallies, .channels, .conditions, .counters] (s.access kind test n w) := by
  have hset : s.leavesBut [.bins, .tallies, .channels, .conditions, .counters]
      (s.setBin n ((s.wornBin n w).tested kind)) := State.leavesBut_mono (s.setBin_leaves _ _) (by decide)
  have hcounted (c : Ctr) (f : Flag) := State.leavesBut_step (State.leavesBut_step hset (State.count_leaves _ c 1)
    (by decide)) (State.raise_leaves _ f) (by decide)
  unfold State.access
  split
  · exact hset
  · exact hcounted _ _
  · split
    · exact hcounted _ _
    · exact State.leavesBut_trans (hcounted _ _) (State.enterFault_leaves _ _ _)

/-- A granted access. -/
theorem State.granted_access_leaves (r : Requester) (kind : AccessKind) (test : Bool) (n : Nat) (w : Wear) :
    s.leavesBut [.port, .bins, .tallies, .channels, .conditions, .counters] ((s.granted r).access kind test n w) :=
  State.leavesBut_step (State.leavesBut_mono (s.granted_leaves r) (by decide)) (State.access_leaves _ _ _ _ _)
    (by decide)

theorem State.slotAccess_leaves (bank : Bank) (n : Nat) (w : Wear) :
    s.leavesBut [.curves, .conditions, .counters] (s.slotAccess bank n w) := by
  have hset : s.leavesBut [.curves, .conditions, .counters]
      { s with curves := s.curves.setSlot bank n ((s.curves.slot bank n).tested w) } :=
    State.leavesBut_mono (s.withCurves_leaves _) (by decide)
  have hcounted (c : Ctr) (f : Flag) := State.leavesBut_step (State.leavesBut_step hset (State.count_leaves _ c 1)
    (by decide)) (State.raise_leaves _ f) (by decide)
  unfold State.slotAccess
  dsimp only
  split
  · exact hset
  · exact hcounted _ _
  · split
    · exact hset
    · exact hcounted _ _

/-! ## Requests and replies -/

theorem State.reply_leaves (result : ResultCode) (content : List Octet) :
    s.leavesBut [.mgmt] (s.reply result content) := by
  unfold State.reply
  split
  · exact s.leavesBut_refl _
  · exact s.onMgmt_leaves _

theorem State.lockAndReply_leaves (reason : LockReason) (number : Nat) :
    s.leavesBut [.mgmt, .conditions] (s.lockAndReply reason number) := by
  refine State.leavesBut_step (t := (s.onMgmt fun m => { m with lock := some (reason, number) }).onReport fun r =>
    { r with conditions := r.conditions.lockRises }) (fun p hp => ?_) (State.reply_leaves _ _ _) (by decide)
  have hrise (u : ConditionUnit) : u.lockRises.counters = u.counters := by
    unfold ConditionUnit.lockRises
    split <;> simp
  cases p with
  | mgmt | conditions => simp at hp
  | segments => exact ⟨rfl, rfl⟩
  | counters => exact hrise _
  | _ => rfl

end Reports

/-- A property that replies keep, and that the rule of a request taken keeps, is kept by serving it. -/
theorem State.serve_induction {P : State → Prop} {s : State} {k : RequestKind} {bare : List Octet}
    {rule : List Octet → State → State} (hs : P s) (hreply : P (s.reply .badRequest bare))
    (hrule : ∀ r, s.offers k r → P (rule r.args s)) : P (s.serve k bare rule) := by
  unfold State.serve
  cases hr : s.takeable with
  | none => exact hs
  | some r =>
    dsimp only
    split
    case isFalse => exact hs
    case isTrue hk =>
      split
      case isFalse => exact hreply
      case isTrue hl =>
        unfold State.takeable at hr
        split at hr
        case isFalse => simp at hr
        case isTrue hidle =>
          have hcode := List.find?_some hk
          exact hrule r ⟨hidle.1, hidle.2, hr, (eq_of_beq hcode).symm, hl⟩

theorem State.unlessLocked_induction {P : State → Prop} {s : State} {rule : State → State}
    (hreply : P (s.reply .locked (lockOctets s.mgmt.lock))) (hrule : s.mgmt.lock = none → P (rule s)) :
    P (s.unlessLocked rule) := by
  unfold State.unlessLocked
  split
  case isTrue => exact hreply
  case isFalse h => exact hrule (by simpa using h)

theorem State.onChannelNamed_induction {P : State → Prop} {s : State} {args : List Octet} {rule : Nat → State → State}
    (hreply : P (s.reply .badValue [])) (hrule : fieldAt 0 1 args ≤ 7 → P (rule (fieldAt 0 1 args) s)) :
    P (s.onChannelNamed args rule) := by
  unfold State.onChannelNamed
  dsimp only
  split
  · exact hreply
  · exact hrule (by omega)

theorem State.serve_leaves {s : State} {L : List Part} {k : RequestKind} {bare : List Octet}
    {rule : List Octet → State → State} (hm : .mgmt ∈ L) (hrule : ∀ r, s.offers k r → s.leavesBut L (rule r.args s)) :
    s.leavesBut L (s.serve k bare rule) :=
  State.serve_induction (s.leavesBut_refl L) (State.leavesBut_mono (s.reply_leaves _ _) (by simpa using hm)) hrule

end Sys2Proof.Machine

/-! What each command changes, command by command: the list of the parts that it may change, and the proof that it
leaves every other part exactly as it was. -/

namespace Sys2Proof.Machine

/-- Every state that an outcome goes on to has a property. -/
def EveryNext (P : State → Prop) (o : Out) : Prop := ∀ t, o = .next t → P t

theorem everyNext_next {P : State → Prop} {t : State} : EveryNext P (.next t) ↔ P t :=
  ⟨fun h => h t rfl, fun h _ e => Host.Outcome.next.inj e ▸ h⟩

theorem everyNext_fault {P : State → Prop} {r : Fault} : EveryNext P (.fault r) := fun _ e => nomatch e

/-! ## The links -/

/-- The parts that octets arriving on a link may change. -/
def linkParts : Link → List Part
  | .field => [.field, .trunk, .conditions, .counters]
  | .trunk => [.trunk, .conditions, .counters]

theorem State.setReceiver_leaves (s : State) (l : Link) (rx : Receiver) : s.leavesBut (linkParts l) (s.setReceiver l rx) := by
  cases l with
  | field => exact State.leavesBut_mono (s.withField_leaves _) (by decide)
  | trunk => exact State.leavesBut_mono (s.withTrunk_leaves _) (by decide)

/-- A property that every step of a receiver keeps, and every judgement of a frame, is kept by the octets that arrive. -/
theorem State.takeOctets_induction {P : State → Prop} {l : Link}
    (hset : ∀ t rx, P t → P (t.setReceiver l rx)) (hjudge : ∀ t f, P t → P (t.judgeFrame l f))
    (herror : ∀ t, P t → P (t.receiveError l)) (n : Nat) (octets : List Octet) {s : State} (hs : P s) :
    P (s.takeOctets l n octets) := by
  induction n generalizing s octets with
  | zero => exact hs
  | succ n ih =>
    cases octets with
    | nil => exact hs
    | cons octet rest =>
      unfold State.takeOctets
      split
      · exact ih _ (hset _ _ hs)
      · exact ih _ (hjudge _ _ (hset _ _ hs))
      · exact ih _ (herror _ (hset _ _ hs))

theorem State.foldl_arrive_induction {P : State → Prop} {l : Link}
    (hset : ∀ t rx, P t → P (t.setReceiver l rx)) (hjudge : ∀ t f, P t → P (t.judgeFrame l f))
    (herror : ∀ t, P t → P (t.receiveError l)) (hline : ∀ t, P t → P (t.lineError l)) (octets : List LineOctet)
    {s : State} (hs : P s) : P (octets.foldl (State.arrive l) s) := by
  induction octets generalizing s with
  | nil => exact hs
  | cons octet octets ih =>
    refine ih (State.takeOctets_induction hset hjudge herror _ _ ?_)
    split
    · exact hs
    · exact hline _ hs

section Links

variable (s : State)

theorem State.countRaise_leaves (c : Ctr) (f : Flag) : s.leavesBut [.conditions, .counters] ((s.count c 1).raise f) :=
  State.leavesBut_step (State.leavesBut_mono (s.count_leaves c 1) (by decide)) (State.raise_leaves _ f) (by decide)

theorem State.offerSensor_leaves (r : Reading) : s.leavesBut [.field, .conditions, .counters] (s.offerSensor r) := by
  unfold State.offerSensor
  split
  · exact State.leavesBut_mono (s.count_leaves _ _) (by decide)
  · split
    · exact State.leavesBut_mono (s.countRaise_leaves _ _) (by decide)
    · dsimp only
      have hjoin (f : FieldLink) : s.leavesBut [.field, .conditions, .counters] { s with field := f } :=
        State.leavesBut_mono (s.withField_leaves f) (by decide)
      split
      · exact State.leavesBut_step (hjoin _) (State.raise_leaves _ _) (by decide)
      · exact hjoin _

theorem State.offerPassThrough_leaves (payload : List Octet) :
    s.leavesBut [.trunk, .conditions, .counters] (s.offerPassThrough payload) := by
  unfold State.offerPassThrough
  split
  · exact State.leavesBut_mono (s.countRaise_leaves _ _) (by decide)
  · exact State.leavesBut_mono (s.withTrunk_leaves _) (by decide)

theorem State.offerFieldEgress_leaves (payload : List Octet) :
    s.leavesBut [.field, .conditions, .counters] (s.offerFieldEgress payload) := by
  unfold State.offerFieldEgress
  split
  · exact State.leavesBut_mono (s.countRaise_leaves _ _) (by decide)
  · exact State.leavesBut_mono (s.withField_leaves _) (by decide)

theorem State.offerTrunk_leaves (f : TrunkFrame) : s.leavesBut [.trunk, .conditions, .counters] (s.offerTrunk f) := by
  unfold State.offerTrunk
  split
  · exact State.leavesBut_mono (s.countRaise_leaves _ _) (by decide)
  · exact State.leavesBut_mono (s.withTrunk_leaves _) (by decide)

theorem State.judgeField_leaves (f : Frame) : s.leavesBut (linkParts .field) (s.judgeField f) := by
  unfold State.judgeField
  have hbad : s.leavesBut (linkParts .field) (s.malformed .field) := State.leavesBut_mono (s.count_leaves _ _) (by decide)
  split
  · split
    · exact State.leavesBut_mono (s.offerSensor_leaves _) (by decide)
    · exact hbad
  · split
    · exact State.leavesBut_mono (s.offerPassThrough_leaves _) (by decide)
    · exact hbad

theorem State.judgeTrunk_leaves (f : Frame) : s.leavesBut (linkParts .trunk) (s.judgeTrunk f) := by
  unfold State.judgeTrunk
  have hcount (c : Ctr) : s.leavesBut (linkParts .trunk) (s.count c 1) :=
    State.leavesBut_mono (s.count_leaves _ _) (by decide)
  split
  · exact s.offerTrunk_leaves _
  · split
    · split
      · exact hcount _
      · split
        · exact s.offerTrunk_leaves _
        · exact hcount _
    · exact hcount _

theorem State.judgeFrame_leaves (l : Link) (f : Frame) : s.leavesBut (linkParts l) (s.judgeFrame l f) := by
  cases l with
  | field => exact s.judgeField_leaves f
  | trunk => exact s.judgeTrunk_leaves f

theorem State.receiveError_leaves (l : Link) : s.leavesBut (linkParts l) (s.receiveError l) :=
  State.leavesBut_mono (s.countRaise_leaves _ _) (by cases l <;> decide)

theorem State.lineError_leaves (l : Link) : s.leavesBut (linkParts l) (s.lineError l) :=
  State.leavesBut_mono (s.count_leaves _ _) (by cases l <;> decide)

theorem State.foldl_arrive_leaves (l : Link) (octets : List LineOctet) :
    s.leavesBut (linkParts l) (octets.foldl (State.arrive l) s) :=
  State.foldl_arrive_induction (P := s.leavesBut (linkParts l))
    (fun t rx h => State.leavesBut_trans h (t.setReceiver_leaves l rx))
    (fun t f h => State.leavesBut_trans h (t.judgeFrame_leaves l f))
    (fun t h => State.leavesBut_trans h (t.receiveError_leaves l))
    (fun t h => State.leavesBut_trans h (t.lineError_leaves l)) octets (s.leavesBut_refl _)

theorem State.refuse_leaves (r : Request) : s.leavesBut [.trunk, .counters] (s.refuse r) := by
  unfold State.refuse
  split
  · exact State.leavesBut_mono (s.count_leaves _ _) (by decide)
  · exact State.leavesBut_step (State.leavesBut_mono (s.withTrunk_leaves _) (by decide)) (State.count_leaves _ _ _)
      (by decide)

theorem State.routeTrunk_leaves (f : TrunkFrame) :
    s.leavesBut [.field, .trunk, .mgmt, .conditions, .counters] (s.routeTrunk f) := by
  unfold State.routeTrunk
  split
  · exact State.leavesBut_mono (s.offerFieldEgress_leaves _) (by decide)
  · split
    · exact State.leavesBut_mono (s.onMgmt_leaves _) (by decide)
    · exact State.leavesBut_mono (s.refuse_leaves _) (by decide)

theorem State.sendTrunk_leaves (f : Frame) : s.leavesBut [.trunk] (s.sendTrunk f) := s.withTrunk_leaves _
theorem State.grantedClass_leaves (c : EgressClass) : s.leavesBut [.trunk] (s.grantedClass c) := s.withTrunk_leaves _
theorem State.grantedChannel_leaves (n : Nat) : s.leavesBut [.trunk] (s.grantedChannel n) := s.withTrunk_leaves _

/-- A frame sent on TRK_TX by the own class. -/
theorem State.sent_leaves {L : List Part} {t : State} (h : s.leavesBut L t) (hL : .trunk ∈ L) (f : Frame)
    (c : EgressClass) : s.leavesBut L ((t.sendTrunk f).grantedClass c) :=
  State.leavesBut_step (State.leavesBut_step h (t.sendTrunk_leaves f) (by simpa using hL))
    (State.grantedClass_leaves _ c) (by simpa using hL)

end Links

/-! ## Readings, visits and the tick -/

section Units

variable (s : State)

theorem State.dropReading_leaves (c : Ctr) : s.leavesBut [.reader, .counters] (s.dropReading c) :=
  State.leavesBut_step (State.leavesBut_mono (s.count_leaves c 1) (by decide)) (State.readerTo_leaves _ _) (by decide)

theorem State.park_leaves (t : Taken) : s.leavesBut [.park, .reader, .conditions, .counters] (s.park t) := by
  unfold State.park
  split
  · refine State.leavesBut_step (t := { s with table := s.table.parked s.now t }) (fun p hp => ?_)
      (State.dropReading_leaves _ _) (by decide)
    cases p with
    | park => simp at hp
    | segments => exact ⟨rfl, rfl⟩
    | _ => rfl
  · exact State.leavesBut_step (State.leavesBut_mono (s.raise_leaves _) (by decide)) (State.dropReading_leaves _ _)
      (by decide)

theorem State.checkSequence_leaves (t : Taken) (b : Bin) :
    s.leavesBut [.park, .reader, .conditions, .counters] (s.checkSequence t b) := by
  unfold State.checkSequence
  split
  · exact State.leavesBut_mono (s.dropReading_leaves _) (by decide)
  · exact State.leavesBut_step (State.leavesBut_mono (s.count_leaves _ _) (by decide)) (State.readerTo_leaves _ _)
      (by decide)
  · exact State.leavesBut_mono (s.readerTo_leaves _) (by decide)

theorem State.checkReading_leaves (t : Taken) (b : Bin) :
    s.leavesBut [.park, .reader, .conditions, .counters] (s.checkReading t b) := by
  have hdrop (c : Ctr) : s.leavesBut [.park, .reader, .conditions, .counters] (s.dropReading c) :=
    State.leavesBut_mono (s.dropReading_leaves c) (by decide)
  unfold State.checkReading
  split
  · exact hdrop _
  · split
    · exact hdrop _
    · split
      · exact hdrop _
      · split
        · exact hdrop _
        · split
          · exact s.park_leaves t
          · exact s.checkSequence_leaves t b

theorem State.holdReading_leaves (a : Accepted) (cause : HoldCause) :
    s.leavesBut [.reader, .counters] (s.holdReading a cause) :=
  State.leavesBut_step (State.leavesBut_mono (s.count_leaves _ 1) (by decide)) (State.readerTo_leaves _ _) (by decide)

theorem State.countApplied_leaves (a : Accepted) (result : FillResult) :
    s.leavesBut [.test, .counters] (s.countApplied a result) := by
  have hcount {t : State} (h : s.leavesBut [.test, .counters] t) (c : Ctr) (n : Nat) :
      s.leavesBut [.test, .counters] (t.count c n) := State.leavesBut_step h (t.count_leaves c n) (by decide)
  have hcounted {t : State} (h : s.leavesBut [.test, .counters] t) (c : Ctr) (n : Nat) (p : Bool) :
      s.leavesBut [.test, .counters] (if p then t.count c n else t) := by
    split
    · exact hcount h c n
    · exact h
  unfold State.countApplied
  dsimp only
  have hall := hcounted (hcounted (hcount (hcount (s.leavesBut_refl _) .appliedReading 1) .gap a.gapGain)
    .sensorRestart 1 a.sensorRestart) .emptying 1 result.isEmptying
  split
  · exact State.leavesBut_step hall (State.withTest_leaves _ _) (by decide)
  · exact hall

theorem State.makeApplication_leaves (a : Accepted) (result : FillResult) (b : Bin) :
    s.leavesBut [.bins, .filter, .test, .reader, .tallies, .channels, .conditions, .counters]
      (s.makeApplication a result b) := by
  unfold State.makeApplication
  dsimp only
  refine State.leavesBut_step (State.leavesBut_step (State.leavesBut_step (State.leavesBut_step (State.leavesBut_step
    (State.leavesBut_mono (s.setBin_leaves _ _) ?_) (State.onFilter_leaves _ _) ?_)
    (State.countApplied_leaves _ _ _) ?_) (State.postChange_leaves _ _ _) ?_)
    (State.foldl_notify_leaves _ _ _ _ _ _ _) ?_) (State.readerTo_leaves _ _) ?_ <;> decide

theorem State.endVisit_leaves : s.leavesBut [.sweep, .mgmt, .counters] s.endVisit := by
  have hmoved (t : SweepEngine → SweepEngine) : s.leavesBut [.sweep, .mgmt, .counters] ((s.count .sweepVisit 1).onSweep t) :=
    State.leavesBut_step (State.leavesBut_mono (s.count_leaves _ _) (by decide)) (State.onSweep_leaves _ _) (by decide)
  have hended (t : SweepEngine → SweepEngine) : s.leavesBut [.sweep, .mgmt, .counters]
      (if s.sweep.cursor = s.sweep.last then ((s.count .sweepVisit 1).onSweep t).count .sweepEnd 1
        else (s.count .sweepVisit 1).onSweep t) := by
    split
    · exact State.leavesBut_step (hmoved t) (State.count_leaves _ _ _) (by decide)
    · exact hmoved t
  unfold State.endVisit
  dsimp only
  by_cases hsuspend : (s.mgmt.stage == .suspend) = true
  · rw [if_pos hsuspend]
    exact State.leavesBut_step (hended _) (State.reply_leaves _ _ _) (by decide)
  · rw [if_neg hsuspend]
    exact hended _

theorem State.judgeVisit_leaves (b : Bin) : s.leavesBut [.sweep, .mgmt, .counters] (s.judgeVisit b) := by
  unfold State.judgeVisit
  split
  · exact State.leavesBut_trans (State.leavesBut_mono (s.count_leaves _ _) (by decide)) (State.endVisit_leaves _)
  · split
    · exact s.endVisit_leaves
    · split
      · exact s.endVisit_leaves
      · split
        · exact State.leavesBut_mono (s.onSweep_leaves _) (by decide)
        · exact s.endVisit_leaves

theorem State.markStale_leaves (record : BinRecord) (b : Bin) :
    s.leavesBut [.bins, .sweep, .tallies, .channels, .conditions, .counters] (s.markStale record b) := by
  unfold State.markStale
  dsimp only
  refine State.leavesBut_step (State.leavesBut_step (State.leavesBut_step (State.leavesBut_step
    (State.leavesBut_mono (s.setBin_leaves _ _) ?_) (State.postChange_leaves _ _ _) ?_)
    (State.notify_leaves _ _ _ _ _ _ _) ?_) (State.onSweep_leaves _ _) ?_) (State.count_leaves _ _ _) ?_ <;> decide

theorem State.load_leaves (n : Nat) (record : BinRecord) (poison : Bool) (finding : Finding) :
    s.leavesBut [.bins, .mgmt, .tallies, .channels, .conditions, .counters] (s.load n record poison finding) := by
  unfold State.load
  dsimp only
  refine State.leavesBut_step (State.leavesBut_step (State.leavesBut_step
    (State.leavesBut_mono (s.setBin_leaves _ _) ?_) (State.postChange_leaves _ _ _) ?_)
    (State.foldl_notify_leaves _ _ _ _ _ _ _) ?_) (State.reply_leaves _ _ _) ?_ <;> decide

theorem State.useFree_leaves (n : Nat) : s.leavesBut [.freeCount] (s.useFree n) := by
  unfold State.useFree
  split
  · exact s.withFreeCount_leaves _
  · exact s.leavesBut_refl _

theorem State.testSlots_leaves (bank : Bank) (slots : List Nat) (wear : List Wear) :
    s.leavesBut [.curves, .conditions, .counters] (s.testSlots bank slots wear).1 := by
  induction slots generalizing s wear with
  | nil => exact s.leavesBut_refl _
  | cons slot slots ih =>
    unfold State.testSlots
    dsimp only
    have hread := s.slotAccess_leaves bank slot (wear.headD .steady)
    split
    · split
      · exact hread
      · split
        · exact State.leavesBut_trans hread (ih _ _)
        · exact hread
    · exact ih s _

theorem State.takeHoldExpiry_leaves (segment : Nat) : s.leavesBut [.segments, .park] (s.takeHoldExpiry segment) := by
  unfold State.takeHoldExpiry
  split
  · exact s.withSegments_leaves _ _ _
  · exact s.leavesBut_refl _

theorem State.takeAutoExpiry_leaves : s.leavesBut [.sweep] s.takeAutoExpiry := by
  unfold State.takeAutoExpiry
  split
  · exact s.onSweep_leaves _
  · exact s.leavesBut_refl _

@[simp] theorem Reporting.boundaryTo_zones (now : Nat) (r : Reporting) (n : Nat) :
    (r.boundaryTo now n).zones = r.zones := by simp [Reporting.boundaryTo]

theorem Reporting.settle_counters (r : Reporting) (now n : Nat) :
    (r.settle now n).conditions.counters = r.conditions.counters := by
  rw [Reporting.settle_conditions]
  split <;> simp

theorem Reporting.boundaryTo_counters (now : Nat) (r : Reporting) (n : Nat) :
    (r.boundaryTo now n).conditions.counters = r.conditions.counters := Reporting.settle_counters _ _ _

theorem State.takeBoundary_leaves : s.leavesBut [.channels, .boundary, .conditions] s.takeBoundary := by
  unfold State.takeBoundary
  split
  · intro p hp
    cases p with
    | channels | boundary | conditions => simp at hp
    | tallies =>
      rw [State.agrees, State.onReport_report, foldl_keeps Reporting.zones _ (fun _ _ => Reporting.boundaryTo_zones _ _ _)]
    | counters =>
      rw [State.agrees, State.onReport_report,
        foldl_keeps (fun r : Reporting => r.conditions.counters) _ (fun _ _ => Reporting.boundaryTo_counters _ _ _)]
    | segments => exact ⟨rfl, rfl⟩
    | _ => simp [State.agrees]
  · exact s.leavesBut_refl _

theorem State.takeHoldoffEnd_leaves : s.leavesBut [.conditions] s.takeHoldoffEnd := by
  unfold State.takeHoldoffEnd
  split
  · intro p hp
    cases p with
    | conditions => simp at hp
    | segments => exact ⟨rfl, rfl⟩
    | _ => rfl
  · exact s.leavesBut_refl _

/-- The parts that the events of a tick may change. -/
theorem State.overdueEvents_leaves :
    s.leavesBut [.segments, .park, .sweep, .channels, .boundary, .conditions] s.overdueEvents := by
  have hholds (segments : List Nat) (t : State) :
      t.leavesBut [.segments, .park] (segments.foldl (fun t segment => t.takeHoldExpiry segment) t) := by
    induction segments generalizing t with
    | nil => exact t.leavesBut_refl _
    | cons segment segments ih => exact State.leavesBut_trans (t.takeHoldExpiry_leaves segment) (ih _)
  unfold State.overdueEvents
  refine State.leavesBut_step (State.leavesBut_step (State.leavesBut_step (State.leavesBut_mono (hholds _ s) ?_)
    (State.takeAutoExpiry_leaves _) ?_) (State.takeBoundary_leaves _) ?_) (State.takeHoldoffEnd_leaves _) ?_ <;> decide

theorem State.countTick_leaves :
    s.leavesBut [.segments, .filter, .sweep, .boundary, .conditions, .mgmt] s.countTick := by
  intro p hp
  cases p with
  | segments | filter | sweep | boundary | conditions | mgmt => simp at hp
  | _ => rfl

theorem State.withdrawn_leaves : s.leavesBut [.reader, .filter, .sweep] s.withdrawn := by
  intro p hp
  cases p with
  | reader | filter | sweep => simp at hp
  | segments => exact ⟨rfl, rfl⟩
  | _ => rfl

theorem State.tableCleared_leaves : s.leavesBut [.bins, .segments, .park, .tallies] s.tableCleared := by
  intro p hp
  cases p with
  | bins | segments | park | tallies => simp at hp
  | _ => rfl

theorem State.blocksRestarted_leaves : s.leavesBut [.mgmt, .channels, .conditions, .counters, .test] s.blocksRestarted := by
  intro p hp
  cases p with
  | mgmt | channels | conditions | counters | test => simp at hp
  | segments => exact ⟨rfl, rfl⟩
  | _ => rfl

end Units

end Sys2Proof.Machine

/-! The parts that each command may change, and that it leaves every other part exactly as it was. -/

namespace Sys2Proof.Machine

/-- The parts that an access to the Bin Table may change, with the reports that follow it. -/
def accessParts : List Part := [.port, .bins, .tallies, .channels, .conditions, .counters]

/-- The parts of the state that a command may change. -/
def changedParts : Instr → List Part
  | .deviceReset _ _ =>
    [.field, .trunk, .filter, .reader, .bins, .segments, .park, .port, .curves, .tallies, .channels, .boundary,
      .conditions, .counters, .sweep, .mgmt, .test]
  | .fldRxFrame _ => linkParts .field
  | .trkRxFrame _ => linkParts .trunk
  | .lengthOctetError link _ => linkParts link
  | .trunkIngressRoute => [.field, .trunk, .mgmt, .conditions, .counters]
  | .fieldEgressSend => [.field]
  | .passThroughGrant | .refusalSlotGrant => [.trunk]
  | .replySlotGrant => [.trunk, .mgmt]
  | .conditionNoticeGrant => [.trunk, .conditions]
  | .creditOutNotice => [.trunk, .channels, .counters]
  | .reportFrame => [.trunk, .channels, .conditions, .counters]
  | .partTimeTick => [.segments, .park, .filter, .sweep, .channels, .boundary, .conditions, .mgmt]
  | .entryDue => [.filter]
  | .paceBoundary => [.channels, .boundary, .conditions]
  | .holdTimerExpiry _ => [.segments, .park]
  | .autoCountdownExpiry => [.sweep]
  | .holdoffEnd => [.conditions]
  | .testIntervalExpiry => [.field, .test, .conditions, .counters]
  | .copy => [.field, .filter, .counters]
  | .handOver => [.field, .filter, .reader]
  | .eviction => [.filter, .counters]
  | .takeReleasedEntry => [.park, .reader]
  | .recordFetch _ => .park :: .reader :: accessParts
  | .fillComputation _ => [.curves, .reader, .conditions, .counters]
  | .runWrite _ => .reader :: accessParts
  | .application _ => .filter :: .test :: .reader :: accessParts
  | .writeBack _ => .filter :: accessParts
  | .visit _ | .staleWrite _ => .sweep :: .mgmt :: accessParts
  | .loadGrant _ | .convertedRead _ | .binScan _ => .mgmt :: accessParts
  | .binReadAccess _ => .freeCount :: .mgmt :: accessParts
  | .bankExchange | .curveLoad => [.curves, .mgmt]
  | .restartCarriedOut =>
    [.reader, .filter, .sweep, .bins, .segments, .park, .tallies, .mgmt, .channels, .conditions, .counters, .test]
  | .tableWideClear => [.reader, .filter, .sweep, .bins, .segments, .park, .tallies, .mgmt]
  | .unknownRequest | .info | .paramRead | .binLoad | .binRead | .zoneRead | .sweepRead | .clear | .channelRead
  | .alertRead | .statsRead | .restart => [.mgmt]
  | .timeSet => [.filter, .mgmt]
  | .curveRead _ | .curveSwap _ => [.curves, .conditions, .counters, .mgmt]
  | .protect | .hold | .release => [.segments, .park, .mgmt]
  | .paramSet | .sweepSuspend | .sweepResume | .stop => [.sweep, .mgmt]
  | .sweepStart => [.sweep, .mgmt, .conditions]
  | .channelSet | .channelClose | .credit => [.channels, .mgmt]
  | .sync => [.channels, .conditions, .mgmt]
  | .alertSet | .alertClear | .snapshot => [.conditions, .counters, .mgmt]
  | .testStart | .testStop => [.test, .mgmt]
  | .testRead => [.test, .conditions, .mgmt]

section Requests

variable (s : State)

theorem State.reply_leaves_of_mem {L : List Part} {t : State} (h : s.leavesBut L t) (hm : .mgmt ∈ L)
    (result : ResultCode) (content : List Octet) : s.leavesBut L (t.reply result content) :=
  State.leavesBut_step h (t.reply_leaves result content) (by simpa using hm)

/-- A request that only reads. -/
theorem State.serve_reply_leaves (k : RequestKind) (bare : List Octet) (result : ResultCode)
    (content : List Octet → State → List Octet) :
    s.leavesBut [.mgmt] (s.serve k bare fun args t => t.reply result (content args t)) :=
  State.serve_leaves (by decide) fun _ _ => s.reply_leaves _ _

theorem State.unlessLocked_leaves {L : List Part} {rule : State → State} (hm : .mgmt ∈ L) (h : s.leavesBut L (rule s)) :
    s.leavesBut L (s.unlessLocked rule) :=
  State.unlessLocked_induction (s.reply_leaves_of_mem (s.leavesBut_refl L) hm _ _) fun _ => h

theorem State.serveBinLoad_leaves (args : List Octet) : s.leavesBut [.mgmt] (s.serveBinLoad args) := by
  unfold State.serveBinLoad
  dsimp only
  split
  · exact s.reply_leaves _ _
  · split
    · exact s.onMgmt_leaves _
    · split
      · exact s.reply_leaves _ _
      · split
        · exact s.reply_leaves _ _
        · exact s.onMgmt_leaves _

theorem State.serveBinRead_leaves (args : List Octet) : s.leavesBut [.mgmt] (s.serveBinRead args) := by
  unfold State.serveBinRead
  split
  · exact s.reply_leaves _ _
  · exact s.onMgmt_leaves _

theorem State.serveCurveLoad_leaves (args : List Octet) : s.leavesBut [.curves, .mgmt] (s.serveCurveLoad args) := by
  unfold State.serveCurveLoad
  dsimp only
  split
  · exact State.reply_leaves_of_mem _ (State.leavesBut_mono (s.withCurves_leaves _) (by decide)) (by decide) _ _
  · exact State.leavesBut_mono (s.reply_leaves _ _) (by decide)

theorem State.serveCurveRead_leaves (wear : Wear) (args : List Octet) :
    s.leavesBut [.curves, .conditions, .counters, .mgmt] (s.serveCurveRead wear args) := by
  have hread (bank : Bank) (n : Nat) : s.leavesBut [.curves, .conditions, .counters, .mgmt] (s.slotAccess bank n wear) :=
    State.leavesBut_mono (s.slotAccess_leaves _ _ _) (by decide)
  unfold State.serveCurveRead
  dsimp only
  split
  · exact State.leavesBut_mono (s.reply_leaves _ _) (by decide)
  · split
    · exact State.leavesBut_mono (s.reply_leaves _ _) (by decide)
    · split
      · exact s.reply_leaves_of_mem (hread _ _) (by decide) _ _
      · exact s.reply_leaves_of_mem (hread _ _) (by decide) _ _

theorem State.serveCurveSwap_leaves (wear : List Wear) :
    s.leavesBut [.curves, .conditions, .counters, .mgmt] (s.serveCurveSwap wear) := by
  have htested : s.leavesBut [.curves, .conditions, .counters, .mgmt]
      (s.testSlots s.curves.active.other (List.range 32) wear).1 :=
    State.leavesBut_mono (s.testSlots_leaves _ _ _) (by decide)
  unfold State.serveCurveSwap
  dsimp only
  split
  · exact State.leavesBut_step htested (State.lockAndReply_leaves _ _ _) (by decide)
  · exact State.leavesBut_step htested (State.onMgmt_leaves _ _) (by decide)

theorem State.serveProtect_leaves (args : List Octet) : s.leavesBut [.segments, .park, .mgmt] (s.serveProtect args) :=
  s.reply_leaves_of_mem (State.leavesBut_mono (s.withSegments_leaves _ _ _) (by decide)) (by decide) _ _

theorem State.serveHold_leaves (args : List Octet) : s.leavesBut [.segments, .park, .mgmt] (s.serveHold args) :=
  s.reply_leaves_of_mem (State.leavesBut_mono (s.withSegments_leaves _ _ _) (by decide)) (by decide) _ _

theorem State.serveRelease_leaves (args : List Octet) : s.leavesBut [.segments, .park, .mgmt] (s.serveRelease args) := by
  unfold State.serveRelease
  dsimp only
  split
  · exact State.leavesBut_mono (s.reply_leaves _ _) (by decide)
  · split
    · exact s.reply_leaves_of_mem (State.leavesBut_mono (s.withSegments_leaves _ _ _) (by decide)) (by decide) _ _
    · exact State.leavesBut_mono (s.reply_leaves _ _) (by decide)

theorem State.serveTimeSet_leaves (args : List Octet) : s.leavesBut [.filter, .mgmt] (s.serveTimeSet args) := by
  refine s.reply_leaves_of_mem (State.leavesBut_step (t := s.onFilter fun _ => { entries := [], retiring := none })
    (State.leavesBut_mono (s.onFilter_leaves _) ?_) (State.onMgmt_leaves _ _) ?_) ?_ _ _ <;> decide

theorem State.serveParamSet_leaves (args : List Octet) : s.leavesBut [.sweep, .mgmt] (s.serveParamSet args) := by
  unfold State.serveParamSet
  dsimp only
  refine s.reply_leaves_of_mem ?_ (by decide) _ _
  have hset (f : ManagementUnit → ManagementUnit) : s.leavesBut [.sweep, .mgmt] (s.onMgmt f) :=
    State.leavesBut_mono (s.onMgmt_leaves f) (by decide)
  split
  · exact hset _
  · exact State.leavesBut_step (hset _) (State.onSweep_leaves _ (SweepEngine.newInterval _)) (by decide)

theorem State.serveZoneRead_leaves (args : List Octet) : s.leavesBut [.mgmt] (s.serveZoneRead args) := by
  unfold State.serveZoneRead
  dsimp only
  split <;> exact s.reply_leaves _ _

theorem State.serveSweepStart_leaves (args : List Octet) :
    s.leavesBut [.sweep, .mgmt, .conditions] (s.serveSweepStart args) := by
  have hreply (result : ResultCode) : s.leavesBut [.sweep, .mgmt, .conditions] (s.reply result []) :=
    State.leavesBut_mono (s.reply_leaves _ _) (by decide)
  unfold State.serveSweepStart
  dsimp only
  split
  · exact hreply _
  · split
    · exact hreply _
    · split
      · exact hreply _
      · split
        · exact s.reply_leaves_of_mem (State.leavesBut_mono (s.onSweep_leaves _) (by decide)) (by decide) _ _
        · exact State.leavesBut_mono (s.lockAndReply_leaves _ _) (by decide)

theorem State.serveSweepSuspend_leaves : s.leavesBut [.sweep, .mgmt] s.serveSweepSuspend := by
  unfold State.serveSweepSuspend
  dsimp only
  split
  · split
    · exact s.reply_leaves_of_mem (State.leavesBut_mono (s.onSweep_leaves _) (by decide)) (by decide) _ _
    · exact State.leavesBut_mono (s.onMgmt_leaves _) (by decide)
  · exact State.leavesBut_mono (s.reply_leaves _ _) (by decide)

theorem State.serveSweepResume_leaves : s.leavesBut [.sweep, .mgmt] s.serveSweepResume := by
  unfold State.serveSweepResume
  split
  · exact s.reply_leaves_of_mem (State.leavesBut_mono (s.onSweep_leaves _) (by decide)) (by decide) _ _
  · exact State.leavesBut_mono (s.reply_leaves _ _) (by decide)

theorem State.serveStop_leaves : s.leavesBut [.sweep, .mgmt] s.serveStop := by
  refine s.reply_leaves_of_mem (State.leavesBut_step (State.leavesBut_mono (s.onSweep_leaves _) ?_)
    (State.onMgmt_leaves _ _) ?_) ?_ _ _ <;> decide

/-- Replying after a channel has been written. -/
theorem State.setChannel_reply_leaves (n : Nat) (c : Channel) (result : ResultCode) (content : List Octet) :
    s.leavesBut [.channels, .mgmt] ((s.setChannel n c).reply result content) :=
  s.reply_leaves_of_mem (State.leavesBut_mono (s.setChannel_leaves n c) (by decide)) (by decide) _ _

theorem State.onChannelNamed_leaves {L : List Part} {args : List Octet} {rule : Nat → State → State} (hm : .mgmt ∈ L)
    (h : s.leavesBut L (rule (fieldAt 0 1 args) s)) : s.leavesBut L (s.onChannelNamed args rule) :=
  State.onChannelNamed_induction (s.reply_leaves_of_mem (s.leavesBut_refl L) hm _ _) fun _ => h

theorem State.serveCredit_leaves (args : List Octet) (n : Nat) : s.leavesBut [.channels, .mgmt] (s.serveCredit args n) := by
  unfold State.serveCredit
  dsimp only
  split
  · exact State.leavesBut_mono (s.reply_leaves _ _) (by decide)
  · exact s.setChannel_reply_leaves _ _ _ _

theorem State.serveChannelSet_leaves (args : List Octet) (n : Nat) :
    s.leavesBut [.channels, .mgmt] (s.serveChannelSet args n) := by
  unfold State.serveChannelSet
  split
  · exact State.leavesBut_mono (s.reply_leaves _ _) (by decide)
  · exact s.setChannel_reply_leaves _ _ _ _

/-- SYNC's offers leave the other blocks and the counters. -/
theorem Reporting.syncZones_frame (now n : Nat) (zones : List Nat) (r : Reporting) :
    (r.syncZones now n zones).1.zones = r.zones ∧ (r.syncZones now n zones).1.boundary = r.boundary
      ∧ (r.syncZones now n zones).1.conditions.counters = r.conditions.counters := by
  induction zones generalizing r with
  | nil => exact ⟨rfl, rfl, rfl⟩
  | cons zone zones ih =>
    obtain ⟨hz, hb, hc⟩ := ih ((r.setChannel n ((r.channel n).takeZone zone)).settle now n)
    exact ⟨hz.trans (by simp), hb.trans (by simp), hc.trans (by simp [Reporting.settle_counters])⟩

theorem State.serveSync_leaves (n : Nat) : s.leavesBut [.channels, .conditions, .mgmt] (s.serveSync n) := by
  unfold State.serveSync
  dsimp only
  split
  · exact State.leavesBut_mono (s.reply_leaves _ _) (by decide)
  · refine s.reply_leaves_of_mem (fun p hp => ?_) (by decide) _ _
    obtain ⟨hz, hb, hc⟩ := s.report.syncZones_frame s.now n (Bits.members (s.report.channel n).zones)
    cases p with
    | channels | conditions | mgmt => simp at hp
    | segments => exact ⟨rfl, rfl⟩
    | tallies => exact hz
    | boundary => exact hb
    | counters => exact hc
    | _ => rfl

theorem State.onConditions_reply_leaves (f : ConditionUnit → ConditionUnit) (result : ResultCode) (content : List Octet) :
    s.leavesBut [.conditions, .counters, .mgmt] ((s.onConditions f).reply result content) :=
  s.reply_leaves_of_mem (State.leavesBut_mono (s.onConditions_leaves f) (by decide)) (by decide) _ _

theorem State.serveAlertSet_leaves (args : List Octet) :
    s.leavesBut [.conditions, .counters, .mgmt] (s.serveAlertSet args) := by
  unfold State.serveAlertSet
  split
  · exact State.leavesBut_mono (s.reply_leaves _ _) (by decide)
  · exact s.onConditions_reply_leaves _ _ _

theorem State.serveSnapshot_leaves (args : List Octet) :
    s.leavesBut [.conditions, .counters, .mgmt] (s.serveSnapshot args) := by
  unfold State.serveSnapshot
  split
  · exact State.leavesBut_mono (s.reply_leaves _ _) (by decide)
  · exact s.onConditions_reply_leaves _ _ _

theorem State.serveStatsRead_leaves (args : List Octet) : s.leavesBut [.mgmt] (s.serveStatsRead args) := by
  unfold State.serveStatsRead
  dsimp only
  split <;> exact s.reply_leaves _ _

theorem State.onTest_reply_leaves (f : TestGenerator → TestGenerator) (result : ResultCode) (content : List Octet) :
    s.leavesBut [.test, .mgmt] ((s.onTest f).reply result content) :=
  s.reply_leaves_of_mem (State.leavesBut_mono (s.onTest_leaves f) (by decide)) (by decide) _ _

theorem State.serveTestStart_leaves (args : List Octet) : s.leavesBut [.test, .mgmt] (s.serveTestStart args) := by
  have hreply (result : ResultCode) : s.leavesBut [.test, .mgmt] (s.reply result []) :=
    State.leavesBut_mono (s.reply_leaves _ _) (by decide)
  unfold State.serveTestStart
  split
  · exact hreply _
  · split
    · exact hreply _
    · split
      · exact hreply _
      · exact s.onTest_reply_leaves _ _ _

theorem State.serveTestStop_leaves : s.leavesBut [.test, .mgmt] s.serveTestStop := by
  unfold State.serveTestStop
  split
  · exact s.onTest_reply_leaves _ _ _
  · exact State.leavesBut_mono (s.reply_leaves _ _) (by decide)

theorem State.serveTestRead_leaves : s.leavesBut [.test, .conditions, .mgmt] s.serveTestRead := by
  have hraise : s.leavesBut [.test, .conditions, .mgmt] (if 0 < s.test.shortfall then s.raise .testShort else s) := by
    split
    · exact State.leavesBut_mono (s.raise_leaves _) (by decide)
    · exact s.leavesBut_refl _
  exact s.reply_leaves_of_mem (State.leavesBut_step hraise (State.onTest_leaves _ _) (by decide)) (by decide) _ _

theorem State.serveRestart_leaves : s.leavesBut [.mgmt] s.serveRestart :=
  State.leavesBut_trans (s.reply_leaves _ _) (State.onMgmt_leaves _ _)

end Requests

/-! ## Command by command -/

section Commands

variable (s : State)

theorem execFieldEgressSend_leaves : EveryNext (s.leavesBut [.field]) (execFieldEgressSend s) := by
  unfold execFieldEgressSend
  split
  · exact everyNext_next.2 (s.leavesBut_refl _)
  · exact everyNext_next.2 (State.leavesBut_trans (s.withField_leaves _) (State.withField_leaves _ _))

theorem execTrunkIngressRoute_leaves :
    EveryNext (s.leavesBut [.field, .trunk, .mgmt, .conditions, .counters]) (execTrunkIngressRoute s) := by
  unfold execTrunkIngressRoute
  split
  · exact everyNext_next.2 (s.leavesBut_refl _)
  · exact everyNext_next.2 (State.leavesBut_trans (State.leavesBut_mono (s.withTrunk_leaves _) (by decide))
      (State.routeTrunk_leaves _ _))

theorem execPassThroughGrant_leaves : EveryNext (s.leavesBut [.trunk]) (execPassThroughGrant s) := by
  unfold execPassThroughGrant
  split
  · exact everyNext_next.2 (s.sent_leaves (s.withTrunk_leaves _) (by decide) _ _)
  · exact everyNext_next.2 (s.leavesBut_refl _)

theorem execRefusalSlotGrant_leaves : EveryNext (s.leavesBut [.trunk]) (execRefusalSlotGrant s) := by
  unfold execRefusalSlotGrant
  split
  · exact everyNext_next.2 (s.sent_leaves (s.withTrunk_leaves _) (by decide) _ _)
  · exact everyNext_next.2 (s.leavesBut_refl _)

theorem execReplySlotGrant_leaves : EveryNext (s.leavesBut [.trunk, .mgmt]) (execReplySlotGrant s) := by
  unfold execReplySlotGrant
  split
  · exact everyNext_next.2 (s.sent_leaves (State.leavesBut_mono (s.onMgmt_leaves _) (by decide)) (by decide) _ _)
  · exact everyNext_next.2 (s.leavesBut_refl _)

theorem execConditionNoticeGrant_leaves :
    EveryNext (s.leavesBut [.trunk, .conditions]) (execConditionNoticeGrant s) := by
  unfold execConditionNoticeGrant
  split
  · refine everyNext_next.2 (s.sent_leaves (fun p hp => ?_) (by decide) _ _)
    cases p with
    | trunk | conditions => simp at hp
    | segments => exact ⟨rfl, rfl⟩
    | _ => rfl
  · exact everyNext_next.2 (s.leavesBut_refl _)

theorem execCreditOutNotice_leaves :
    EveryNext (s.leavesBut [.trunk, .channels, .counters]) (execCreditOutNotice s) := by
  unfold execCreditOutNotice
  split
  · dsimp only
    split
    · refine everyNext_next.2 (State.leavesBut_step (s.sent_leaves (State.leavesBut_step
        (State.leavesBut_mono (s.setChannel_leaves _ _) ?_) (State.count_leaves _ _ _) ?_) ?_ _ _)
        (State.grantedChannel_leaves _ _) ?_) <;> decide
    · exact everyNext_next.2 (s.leavesBut_refl _)
  · exact everyNext_next.2 (s.leavesBut_refl _)

theorem execReportFrame_leaves :
    EveryNext (s.leavesBut [.trunk, .channels, .conditions, .counters]) (execReportFrame s) := by
  unfold execReportFrame
  split
  · next n _ =>
    dsimp only
    split
    · exact everyNext_next.2 (s.leavesBut_refl _)
    · have hsent : s.leavesBut [.trunk, .channels, .conditions, .counters]
          (s.onReport fun r => (r.setChannel n (s.report.channel n).sent).settle s.now n) := by
        intro p hp
        cases p with
        | trunk | channels | conditions | counters => simp at hp
        | segments => exact ⟨rfl, rfl⟩
        | tallies => exact Reporting.settle_zones _ _ _
        | boundary => exact Reporting.settle_boundary _ _ _
        | _ => rfl
      refine everyNext_next.2 (State.leavesBut_step (s.sent_leaves (State.leavesBut_step hsent
        (State.count_leaves _ _ _) ?_) ?_ _ _) (State.grantedChannel_leaves _ _) ?_) <;> decide
  · exact everyNext_next.2 (s.leavesBut_refl _)

theorem execPartTimeTick_leaves :
    EveryNext (s.leavesBut [.segments, .park, .filter, .sweep, .channels, .boundary, .conditions, .mgmt])
      (execPartTimeTick s) :=
  everyNext_next.2 (State.leavesBut_step (State.leavesBut_mono s.overdueEvents_leaves (by decide))
    (State.countTick_leaves _) (by decide))

theorem execEntryDue_leaves : EveryNext (s.leavesBut [.filter]) (execEntryDue s) := by
  unfold execEntryDue
  split
  · exact everyNext_next.2 (s.leavesBut_refl _)
  · split
    · exact everyNext_next.2 (s.onFilter_leaves _)
    · exact everyNext_next.2 (s.leavesBut_refl _)

theorem execTestIntervalExpiry_leaves :
    EveryNext (s.leavesBut [.field, .test, .conditions, .counters]) (execTestIntervalExpiry s) := by
  unfold execTestIntervalExpiry
  split
  · exact everyNext_next.2 (State.leavesBut_step (State.leavesBut_mono (s.onTest_leaves _) (by decide))
      (State.offerSensor_leaves _ _) (by decide))
  · exact everyNext_next.2 (s.leavesBut_refl _)

theorem execCopy_leaves : EveryNext (s.leavesBut [.field, .filter, .counters]) (execCopy s) := by
  unfold execCopy
  split
  · exact everyNext_next.2 (s.leavesBut_refl _)
  · split
    · refine everyNext_next.2 (State.leavesBut_step (State.leavesBut_step
        (State.leavesBut_mono (s.withField_leaves _) ?_) (State.onFilter_leaves _ _) ?_) (State.count_leaves _ _ _) ?_) <;>
        decide
    · exact everyNext_next.2 (s.leavesBut_refl _)

theorem execHandOver_leaves : EveryNext (s.leavesBut [.field, .filter, .reader]) (execHandOver s) := by
  unfold execHandOver
  split
  · exact everyNext_next.2 (s.leavesBut_refl _)
  · split
    · refine everyNext_next.2 fun p hp => ?_
      cases p with
      | field | filter | reader => simp at hp
      | segments => exact ⟨rfl, rfl⟩
      | _ => rfl
    · exact everyNext_next.2 (s.leavesBut_refl _)

theorem execEviction_leaves : EveryNext (s.leavesBut [.filter, .counters]) (execEviction s) := by
  unfold execEviction
  split
  · exact everyNext_next.2 (s.leavesBut_refl _)
  · split
    · exact everyNext_next.2 (State.leavesBut_step (State.leavesBut_mono (s.onFilter_leaves _) (by decide))
        (State.count_leaves _ _ _) (by decide))
    · exact everyNext_next.2 (s.leavesBut_refl _)

theorem execTakeReleasedEntry_leaves : EveryNext (s.leavesBut [.park, .reader]) (execTakeReleasedEntry s) := by
  unfold execTakeReleasedEntry
  split
  · exact everyNext_next.2 (s.leavesBut_refl _)
  · split
    · refine everyNext_next.2 fun p hp => ?_
      cases p with
      | park | reader => simp at hp
      | segments => exact ⟨rfl, rfl⟩
      | _ => rfl
    · exact everyNext_next.2 (s.leavesBut_refl _)

theorem execRecordFetch_leaves (wear : Wear) :
    EveryNext (s.leavesBut (.park :: .reader :: accessParts)) (execRecordFetch wear s) := by
  unfold execRecordFetch
  split
  · next t _ =>
    split
    · have hread := State.leavesBut_mono (M := .park :: .reader :: accessParts)
        (s.granted_access_leaves .readingUnit .read t.reading.isTest t.reading.bin wear) (by decide)
      dsimp only
      split
      · exact everyNext_next.2 (State.leavesBut_step hread (State.dropReading_leaves _ _) (by decide))
      · exact everyNext_next.2 (State.leavesBut_step hread (State.checkReading_leaves _ _ _) (by decide))
      · exact everyNext_next.2 (State.leavesBut_step hread (State.checkReading_leaves _ _ _) (by decide))
    · exact everyNext_next.2 (s.leavesBut_refl _)
  · exact everyNext_next.2 (s.leavesBut_refl _)

theorem execFillComputation_leaves (wear : Wear) :
    EveryNext (s.leavesBut [.curves, .reader, .conditions, .counters]) (execFillComputation wear s) := by
  unfold execFillComputation
  split
  · next a _ =>
    have hread := State.leavesBut_mono (M := [.curves, .reader, .conditions, .counters])
      (s.slotAccess_leaves s.curves.active a.record.curve wear) (by decide)
    split
    · exact everyNext_next.2 (State.leavesBut_mono (s.holdReading_leaves _ _) (by decide))
    · dsimp only
      split
      · split
        · exact everyNext_next.2 (State.leavesBut_step hread (State.holdReading_leaves _ _ _) (by decide))
        · exact everyNext_next.2 (State.leavesBut_step hread (State.readerTo_leaves _ _) (by decide))
      · exact everyNext_fault
  · exact everyNext_next.2 (s.leavesBut_refl _)

theorem execRunWrite_leaves (wear : Wear) : EveryNext (s.leavesBut (.reader :: accessParts)) (execRunWrite wear s) := by
  unfold execRunWrite
  split
  · next t _ _ _ =>
    split
    · have hwrite := State.leavesBut_mono (M := .reader :: accessParts)
        (s.granted_access_leaves .readingUnit .write false t.reading.bin wear) (by decide)
      dsimp only
      split
      · exact everyNext_next.2 (State.leavesBut_step (State.leavesBut_step hwrite (State.setBin_leaves _ _ _) (by decide))
          (State.readerTo_leaves _ _) (by decide))
      · exact everyNext_next.2 (State.leavesBut_step hwrite (State.readerTo_leaves _ _) (by decide))
    · exact everyNext_next.2 (s.leavesBut_refl _)
  · exact everyNext_next.2 (s.leavesBut_refl _)

theorem execApplication_leaves (wear : Wear) :
    EveryNext (s.leavesBut (.filter :: .test :: .reader :: accessParts)) (execApplication wear s) := by
  unfold execApplication
  split
  · next a result _ =>
    split
    · have hwrite := State.leavesBut_mono (M := .filter :: .test :: .reader :: accessParts)
        (s.granted_access_leaves .readingUnit .write a.taken.reading.isTest a.taken.reading.bin wear) (by decide)
      dsimp only
      split
      · exact everyNext_next.2 (State.leavesBut_step hwrite (State.dropReading_leaves _ _) (by decide))
      · split
        · exact everyNext_next.2 (State.leavesBut_step hwrite (State.dropReading_leaves _ _) (by decide))
        · exact everyNext_next.2 (State.leavesBut_step hwrite (State.makeApplication_leaves _ _ _ _) (by decide))
    · exact everyNext_next.2 (s.leavesBut_refl _)
  · exact everyNext_next.2 (s.leavesBut_refl _)

theorem execWriteBack_leaves (wear : Wear) : EveryNext (s.leavesBut (.filter :: accessParts)) (execWriteBack wear s) := by
  unfold execWriteBack
  split
  · next e _ _ _ =>
    split
    · have hwrite := State.leavesBut_mono (M := .filter :: accessParts)
        (s.granted_access_leaves .arrivalFilter .write false e.bin wear) (by decide)
      dsimp only
      split
      · refine everyNext_next.2 (State.leavesBut_step (State.leavesBut_step (State.leavesBut_step hwrite
          (State.setBin_leaves _ _ _) ?_) (State.onFilter_leaves _ _) ?_) (State.count_leaves _ _ _) ?_) <;> decide
      · refine everyNext_next.2 (State.leavesBut_step (State.leavesBut_step hwrite (State.onFilter_leaves _ _) ?_)
          (State.count_leaves _ _ _) ?_) <;> decide
    · exact everyNext_next.2 (s.leavesBut_refl _)
  · exact everyNext_next.2 (s.leavesBut_refl _)

theorem execVisit_leaves (wear : Wear) :
    EveryNext (s.leavesBut (.sweep :: .mgmt :: accessParts)) (execVisit wear s) := by
  have hread := State.leavesBut_mono (M := .sweep :: .mgmt :: accessParts)
    (s.granted_access_leaves .sweepEngine .read false s.sweep.cursor wear) (by decide)
  unfold execVisit
  split
  · dsimp only
    split
    · exact everyNext_next.2 (State.leavesBut_step hread (State.endVisit_leaves _) (by decide))
    · exact everyNext_next.2 (State.leavesBut_step hread (State.judgeVisit_leaves _ _) (by decide))
    · exact everyNext_next.2 (State.leavesBut_step hread (State.judgeVisit_leaves _ _) (by decide))
  · exact everyNext_next.2 (s.leavesBut_refl _)

theorem execStaleWrite_leaves (wear : Wear) :
    EveryNext (s.leavesBut (.sweep :: .mgmt :: accessParts)) (execStaleWrite wear s) := by
  have hwrite := State.leavesBut_mono (M := .sweep :: .mgmt :: accessParts)
    (s.granted_access_leaves .sweepEngine .write false s.sweep.cursor wear) (by decide)
  unfold execStaleWrite
  split
  · split
    · dsimp only
      split
      · exact everyNext_next.2 (State.leavesBut_step (State.leavesBut_step hwrite (State.markStale_leaves _ _ _) (by decide))
          (State.endVisit_leaves _) (by decide))
      · exact everyNext_next.2 (State.leavesBut_step (State.leavesBut_step hwrite (State.count_leaves _ _ _) (by decide))
          (State.endVisit_leaves _) (by decide))
    · exact everyNext_next.2 (s.leavesBut_refl _)
  · exact everyNext_next.2 (s.leavesBut_refl _)

theorem execLoadGrant_leaves (wear : Wear) : EveryNext (s.leavesBut (.mgmt :: accessParts)) (execLoadGrant wear s) := by
  unfold execLoadGrant
  split
  · split
    · exact everyNext_next.2 (State.leavesBut_step (State.leavesBut_mono (s.granted_access_leaves _ _ _ _ _) (by decide))
        (State.load_leaves _ _ _ _ _) (by decide))
    · exact everyNext_next.2 (s.leavesBut_refl _)
  · exact everyNext_next.2 (s.leavesBut_refl _)

theorem execConvertedRead_leaves (wear : Wear) :
    EveryNext (s.leavesBut (.mgmt :: accessParts)) (execConvertedRead wear s) := by
  unfold execConvertedRead
  split
  · next n _ =>
    split
    · have hread := State.leavesBut_mono (M := .mgmt :: accessParts)
        (s.granted_access_leaves .managementUnit .read false n wear) (by decide)
      dsimp only
      split <;> exact everyNext_next.2 (State.leavesBut_step hread (State.reply_leaves _ _ _) (by decide))
    · exact everyNext_next.2 (s.leavesBut_refl _)
  · exact everyNext_next.2 (s.leavesBut_refl _)

theorem execBinReadAccess_leaves (wear : Wear) :
    EveryNext (s.leavesBut (.freeCount :: .mgmt :: accessParts)) (execBinReadAccess wear s) := by
  unfold execBinReadAccess
  split
  · next n _ =>
    split
    · have hread := State.leavesBut_mono (M := .freeCount :: .mgmt :: accessParts)
        (s.granted_access_leaves .managementUnit .read false n wear) (by decide)
      dsimp only
      split <;>
        exact everyNext_next.2 (State.leavesBut_step (State.leavesBut_step hread (State.reply_leaves _ _ _) (by decide))
          (State.useFree_leaves _ _) (by decide))
    · exact everyNext_next.2 (s.leavesBut_refl _)
  · exact everyNext_next.2 (s.leavesBut_refl _)

theorem execBinScan_leaves (wear : Wear) : EveryNext (s.leavesBut (.mgmt :: accessParts)) (execBinScan wear s) := by
  unfold execBinScan
  split
  · next n _ =>
    split
    · have hread := State.leavesBut_mono (M := .mgmt :: accessParts)
        (s.granted_access_leaves .managementUnit .read false n wear) (by decide)
      dsimp only
      split
      · exact everyNext_next.2 (State.leavesBut_step hread (State.lockAndReply_leaves _ _ _) (by decide))
      · exact everyNext_next.2 (State.leavesBut_step hread (State.onMgmt_leaves _ _) (by decide))
    · exact everyNext_next.2 (s.leavesBut_refl _)
  · exact everyNext_next.2 (s.leavesBut_refl _)

theorem execBankExchange_leaves : EveryNext (s.leavesBut [.curves, .mgmt]) (execBankExchange s) := by
  unfold execBankExchange
  split
  · exact everyNext_next.2 (State.leavesBut_step (State.leavesBut_mono (s.withCurves_leaves _) (by decide))
      (State.reply_leaves _ _ _) (by decide))
  · exact everyNext_next.2 (s.leavesBut_refl _)

theorem execTableWideClear_leaves :
    EveryNext (s.leavesBut [.reader, .filter, .sweep, .bins, .segments, .park, .tallies, .mgmt]) (execTableWideClear s) := by
  unfold execTableWideClear
  split
  · refine everyNext_next.2 (State.leavesBut_step (State.leavesBut_step (State.leavesBut_mono s.withdrawn_leaves ?_)
      (State.tableCleared_leaves _) ?_) (State.onMgmt_leaves _ fun m => { m with stage := .restartCleared }) ?_) <;> decide
  · exact everyNext_next.2 (s.leavesBut_refl _)

theorem execRestartCarriedOut_leaves :
    EveryNext (s.leavesBut [.reader, .filter, .sweep, .bins, .segments, .park, .tallies, .mgmt, .channels, .conditions,
      .counters, .test]) (execRestartCarriedOut s) := by
  unfold execRestartCarriedOut
  split
  · refine everyNext_next.2 (State.leavesBut_step (State.leavesBut_step (State.leavesBut_mono s.withdrawn_leaves ?_)
      (State.tableCleared_leaves _) ?_) (State.blocksRestarted_leaves _) ?_) <;> decide
  · exact everyNext_next.2 (State.leavesBut_step (State.leavesBut_mono s.withdrawn_leaves (by decide))
      (State.blocksRestarted_leaves _) (by decide))
  · exact everyNext_next.2 (s.leavesBut_refl _)

theorem execUnknownRequest_leaves : EveryNext (s.leavesBut [.mgmt]) (execUnknownRequest s) := by
  unfold execUnknownRequest
  split
  · exact everyNext_next.2 (s.leavesBut_refl _)
  · split
    · exact everyNext_next.2 (s.leavesBut_refl _)
    · exact everyNext_next.2 (s.reply_leaves _ _)

theorem execLengthOctetError_leaves (link : Link) (octet : LineOctet) :
    EveryNext (s.leavesBut (linkParts link)) (execLengthOctetError link octet s) := by
  unfold execLengthOctetError
  split
  · exact everyNext_next.2 (s.foldl_arrive_leaves link [octet])
  · exact everyNext_next.2 (s.leavesBut_refl _)

theorem execDeviceReset_leaves (station : BitVec 4) (speed : BitVec 2) :
    EveryNext (s.leavesBut (changedParts (.deviceReset station speed))) (execDeviceReset station speed s) := by
  refine everyNext_next.2 fun p hp => ?_
  cases p with
  | freeCount | pending => rfl
  | _ => simp [changedParts] at hp

/-- Every command leaves every part but those of its list exactly as it was. -/
theorem exec_leaves (c : Instr) : EveryNext (s.leavesBut (changedParts c)) (exec c s) := by
  cases c with
  | deviceReset station speed => exact execDeviceReset_leaves s station speed
  | fldRxFrame octets => exact everyNext_next.2 (s.foldl_arrive_leaves .field octets)
  | trkRxFrame octets => exact everyNext_next.2 (s.foldl_arrive_leaves .trunk octets)
  | trunkIngressRoute => exact execTrunkIngressRoute_leaves s
  | fieldEgressSend => exact execFieldEgressSend_leaves s
  | passThroughGrant => exact execPassThroughGrant_leaves s
  | replySlotGrant => exact execReplySlotGrant_leaves s
  | refusalSlotGrant => exact execRefusalSlotGrant_leaves s
  | conditionNoticeGrant => exact execConditionNoticeGrant_leaves s
  | creditOutNotice => exact execCreditOutNotice_leaves s
  | reportFrame => exact execReportFrame_leaves s
  | partTimeTick => exact execPartTimeTick_leaves s
  | entryDue => exact execEntryDue_leaves s
  | paceBoundary => exact everyNext_next.2 s.takeBoundary_leaves
  | holdTimerExpiry segment => exact everyNext_next.2 (s.takeHoldExpiry_leaves segment)
  | autoCountdownExpiry => exact everyNext_next.2 s.takeAutoExpiry_leaves
  | holdoffEnd => exact everyNext_next.2 s.takeHoldoffEnd_leaves
  | testIntervalExpiry => exact execTestIntervalExpiry_leaves s
  | copy => exact execCopy_leaves s
  | handOver => exact execHandOver_leaves s
  | eviction => exact execEviction_leaves s
  | takeReleasedEntry => exact execTakeReleasedEntry_leaves s
  | recordFetch wear => exact execRecordFetch_leaves s wear
  | fillComputation wear => exact execFillComputation_leaves s wear
  | runWrite wear => exact execRunWrite_leaves s wear
  | application wear => exact execApplication_leaves s wear
  | writeBack wear => exact execWriteBack_leaves s wear
  | visit wear => exact execVisit_leaves s wear
  | staleWrite wear => exact execStaleWrite_leaves s wear
  | loadGrant wear => exact execLoadGrant_leaves s wear
  | convertedRead wear => exact execConvertedRead_leaves s wear
  | binReadAccess wear => exact execBinReadAccess_leaves s wear
  | binScan wear => exact execBinScan_leaves s wear
  | bankExchange => exact execBankExchange_leaves s
  | restartCarriedOut => exact execRestartCarriedOut_leaves s
  | tableWideClear => exact execTableWideClear_leaves s
  | unknownRequest => exact execUnknownRequest_leaves s
  | info => exact everyNext_next.2 (s.serve_reply_leaves _ _ _ fun _ t => t.infoContent)
  | timeSet => exact everyNext_next.2 (State.serve_leaves (by decide) fun r _ => s.serveTimeSet_leaves r.args)
  | paramSet => exact everyNext_next.2 (State.serve_leaves (by decide) fun r _ => s.serveParamSet_leaves r.args)
  | paramRead => exact everyNext_next.2 (s.serve_reply_leaves _ _ _ fun _ t => [0x00] ++ paramOctets t.mgmt.params)
  | binLoad =>
    exact everyNext_next.2 (State.serve_leaves (by decide) fun r _ =>
      s.unlessLocked_leaves (by decide) (s.serveBinLoad_leaves r.args))
  | binRead => exact everyNext_next.2 (State.serve_leaves (by decide) fun r _ => s.serveBinRead_leaves r.args)
  | curveLoad =>
    exact everyNext_next.2 (State.serve_leaves (by decide) fun r _ =>
      s.unlessLocked_leaves (by decide) (s.serveCurveLoad_leaves r.args))
  | curveRead wear =>
    exact everyNext_next.2 (State.serve_leaves (by simp [changedParts]) fun r _ => s.serveCurveRead_leaves wear r.args)
  | curveSwap wear =>
    exact everyNext_next.2 (State.serve_leaves (by simp [changedParts]) fun _ _ =>
      s.unlessLocked_leaves (by simp [changedParts]) (s.serveCurveSwap_leaves wear))
  | zoneRead => exact everyNext_next.2 (State.serve_leaves (by decide) fun r _ => s.serveZoneRead_leaves r.args)
  | protect =>
    exact everyNext_next.2 (State.serve_leaves (by decide) fun r _ =>
      s.unlessLocked_leaves (by decide) (s.serveProtect_leaves r.args))
  | hold => exact everyNext_next.2 (State.serve_leaves (by decide) fun r _ => s.serveHold_leaves r.args)
  | release => exact everyNext_next.2 (State.serve_leaves (by decide) fun r _ => s.serveRelease_leaves r.args)
  | sweepStart =>
    exact everyNext_next.2 (State.serve_leaves (by decide) fun r _ =>
      s.unlessLocked_leaves (by decide) (s.serveSweepStart_leaves r.args))
  | sweepSuspend => exact everyNext_next.2 (State.serve_leaves (by decide) fun _ _ => s.serveSweepSuspend_leaves)
  | sweepResume => exact everyNext_next.2 (State.serve_leaves (by decide) fun _ _ => s.serveSweepResume_leaves)
  | sweepRead => exact everyNext_next.2 (s.serve_reply_leaves _ _ _ fun _ t => t.sweepContent)
  | stop => exact everyNext_next.2 (State.serve_leaves (by decide) fun _ _ => s.serveStop_leaves)
  | clear =>
    exact everyNext_next.2 (State.serve_leaves (by decide) fun _ _ =>
      State.leavesBut_trans (s.onMgmt_leaves _) (State.reply_leaves _ _ _))
  | channelSet =>
    exact everyNext_next.2 (State.serve_leaves (by decide) fun r _ =>
      s.onChannelNamed_leaves (by decide) (s.serveChannelSet_leaves r.args _))
  | channelClose =>
    exact everyNext_next.2 (State.serve_leaves (by decide) fun _ _ =>
      s.onChannelNamed_leaves (by decide) (s.setChannel_reply_leaves _ _ _ _))
  | channelRead =>
    exact everyNext_next.2 (State.serve_leaves (by decide) fun _ _ =>
      s.onChannelNamed_leaves (by decide) (s.reply_leaves _ _))
  | credit =>
    exact everyNext_next.2 (State.serve_leaves (by decide) fun r _ =>
      s.onChannelNamed_leaves (by decide) (s.serveCredit_leaves r.args _))
  | sync =>
    exact everyNext_next.2 (State.serve_leaves (by decide) fun _ _ =>
      s.onChannelNamed_leaves (by decide) (s.serveSync_leaves _))
  | alertSet => exact everyNext_next.2 (State.serve_leaves (by decide) fun r _ => s.serveAlertSet_leaves r.args)
  | alertRead => exact everyNext_next.2 (s.serve_reply_leaves _ _ _ fun _ t => t.alertContent)
  | alertClear =>
    exact everyNext_next.2 (State.serve_leaves (by decide) fun _ _ => s.onConditions_reply_leaves _ _ _)
  | snapshot => exact everyNext_next.2 (State.serve_leaves (by decide) fun r _ => s.serveSnapshot_leaves r.args)
  | statsRead => exact everyNext_next.2 (State.serve_leaves (by decide) fun r _ => s.serveStatsRead_leaves r.args)
  | testStart => exact everyNext_next.2 (State.serve_leaves (by decide) fun r _ => s.serveTestStart_leaves r.args)
  | testStop => exact everyNext_next.2 (State.serve_leaves (by decide) fun _ _ => s.serveTestStop_leaves)
  | testRead => exact everyNext_next.2 (State.serve_leaves (by decide) fun _ _ => s.serveTestRead_leaves)
  | restart => exact everyNext_next.2 (State.serve_leaves (by decide) fun _ _ => s.serveRestart_leaves)
  | lengthOctetError link octet => exact execLengthOctetError_leaves s link octet

end Commands

/-- A part outside a command's list, after the command. -/
theorem exec_agrees {c : Instr} {s t : State} (h : exec c s = .next t) {p : Part} (hp : p ∉ changedParts c) :
    s.agrees t p := exec_leaves s c t h p hp

/-! ## The machine as a whole -/

/-- Every command but FILL_COMPUTATION answers a next state. -/
theorem exec_answers (c : Instr) (s : State) (hc : ∀ wear, c ≠ .fillComputation wear) : ∃ t, exec c s = .next t := by
  cases c with
  | fillComputation wear => exact absurd rfl (hc wear)
  | trunkIngressRoute | fieldEgressSend | passThroughGrant | replySlotGrant | refusalSlotGrant | conditionNoticeGrant
  | creditOutNotice | reportFrame | entryDue | testIntervalExpiry | copy | handOver | eviction | takeReleasedEntry
  | recordFetch | runWrite | application | writeBack | visit | staleWrite | loadGrant | convertedRead | binReadAccess
  | binScan | bankExchange | restartCarriedOut | tableWideClear | unknownRequest | lengthOctetError =>
    dsimp only [exec, execTrunkIngressRoute, execFieldEgressSend, execPassThroughGrant, execReplySlotGrant,
      execRefusalSlotGrant, execConditionNoticeGrant, execCreditOutNotice, execReportFrame, execEntryDue,
      execTestIntervalExpiry, execCopy, execHandOver, execEviction, execTakeReleasedEntry, execRecordFetch,
      execRunWrite, execApplication, execWriteBack, execVisit, execStaleWrite, execLoadGrant, execConvertedRead,
      execBinReadAccess, execBinScan, execBankExchange, execRestartCarriedOut, execTableWideClear,
      execUnknownRequest, execLengthOctetError]
    repeat' split
    all_goals exact ⟨_, rfl⟩
  | _ => exact ⟨_, rfl⟩

/-- FILL_COMPUTATION answers a next state, or stops for want of a curve. -/
theorem execFillComputation_answers (wear : Wear) (s : State) :
    (∃ t, execFillComputation wear s = .next t)
      ∨ (execFillComputation wear s = .fault .curveAbsent
          ∧ ∃ a time, s.reader = .compute a ∧ echoStage a.record.kind a.taken.reading = .echo time
            ∧ (s.curves.slot s.curves.active a.record.curve).points = []) := by
  unfold execFillComputation
  split
  · next a hreader =>
    split
    · exact .inl ⟨_, rfl⟩
    · next time hecho =>
      dsimp only
      split
      · split <;> exact .inl ⟨_, rfl⟩
      · next habsent => exact .inr ⟨rfl, a, time, hreader, hecho, by simpa [Slot.present] using habsent⟩
  · exact .inl ⟨_, rfl⟩

theorem exec_pending {c : Instr} {s t : State} (h : exec c s = .next t) : t.pending = s.pending := by
  have hfree : Part.pending ∉ changedParts c := by
    cases c with
    | lengthOctetError link octet => cases link <;> simp [changedParts, linkParts]
    | _ => simp [changedParts, linkParts, accessParts]
  exact exec_agrees h hfree

/-- Settles O2: FILL_COMPUTATION alone can stop, and the queue is in no command's list of changes. -/
theorem everyCommandAnswersANextState : Obligations.EveryCommandAnswersANextState := by
  intro c s
  by_cases hc : ∃ wear, c = .fillComputation wear
  case neg =>
    obtain ⟨t, ht⟩ := exec_answers c s fun wear e => hc ⟨wear, e⟩
    exact .inl ⟨t, ht, exec_pending ht⟩
  case pos =>
    obtain ⟨wear, rfl⟩ := hc
    rcases execFillComputation_answers wear s with ⟨t, ht⟩ | ⟨hfault, a, time, hreader, hecho, habsent⟩
    · exact .inl ⟨t, ht, exec_pending (c := .fillComputation wear) ht⟩
    · exact .inr ⟨hfault, wear, a, time, rfl, hreader, hecho, habsent⟩

/-- Settles O1: a step by the queue's two forms. -/
theorem stepRunsTheFrontCommand : Obligations.StepRunsTheFrontCommand := by
  refine ⟨fun c rest s h => ?_, fun s h => ?_⟩
  · unfold step
    rw [h]
  · unfold step
    rw [h]

/-- What every command keeps, whatever stands in the queue, every step keeps. -/
theorem step_keeps {P : State → Prop} (hqueue : ∀ s pending, P s → P { s with pending := pending })
    (hexec : ∀ c s t, P s → exec c s = .next t → P t) {s t : State} (hs : P s) (h : step s = .next t) : P t := by
  unfold step at h
  split at h
  · obtain rfl := Host.Outcome.next.inj h
    exact hs
  · exact hexec _ _ _ (hqueue _ _ hs) h

end Sys2Proof.Machine

/-! What the accesses to the Bin Table do to the bins and to the three reporting blocks, as one relation: bins written
with their contribution change handed on, notices made, counts and flags. -/

namespace Sys2Proof.Machine

/-! ## The relation -/

/-- Bins and reports after some writes of bins, each with its contribution change, some notices, and some changes of
the Condition Unit that keep its counters canonical.  `R n b b'` holds of every write of bin `n` from `b` to `b'`. -/
inductive Traffic (R : Nat → Bin → Bin → Prop) (bins : Table Bin) (r : Reporting) : Table Bin → Reporting → Prop
  | start : Traffic R bins r bins r
  | conditions {bins' : Table Bin} {r' : Reporting} (h : Traffic R bins r bins' r') (u : ConditionUnit)
      (hu : Table.wf Counter.zero r'.conditions.counters = true → Table.wf Counter.zero u.counters = true) :
      Traffic R bins r bins' { r' with conditions := u }
  | write {bins' : Table Bin} {r' : Reporting} (h : Traffic R bins r bins' r') (n : Nat) (b : Bin) (now step : Nat)
      (hR : R n (Table.get Bin.reset n bins') b) :
      Traffic R bins r (Table.set Bin.reset n b bins')
        (r'.applyChange now step (Table.get Bin.reset n bins').fill.contribution b.fill.contribution)
  | notice {bins' : Table Bin} {r' : Reporting} (h : Traffic R bins r bins' r') (now : Nat) (selected : Bool) (x : Notice) :
      Traffic R bins r bins' (r'.notify now selected x)

/-- The bins and the reports of a state come from those of another by such traffic. -/
def State.traffic (R : Nat → Bin → Bin → Prop) (s t : State) : Prop :=
  Traffic R s.table.bins s.report t.table.bins t.report

section Steps

variable {R : Nat → Bin → Bin → Prop} {s t u : State}

theorem State.traffic_refl (R : Nat → Bin → Bin → Prop) (s : State) : s.traffic R s := Traffic.start

theorem Traffic.mono {R' : Nat → Bin → Bin → Prop} (hR : ∀ n b b', R n b b' → R' n b b') {bins bins' : Table Bin}
    {r r' : Reporting} (h : Traffic R bins r bins' r') : Traffic R' bins r bins' r' := by
  induction h with
  | start => exact .start
  | conditions _ u hu ih => exact .conditions ih u hu
  | write _ n b now step hb ih => exact .write ih n b now step (hR _ _ _ hb)
  | notice _ now selected x ih => exact .notice ih now selected x

/-- A step that touches neither the bins nor the reports. -/
theorem State.traffic_step (h : s.traffic R t) (hbins : u.table.bins = t.table.bins) (hreport : u.report = t.report) :
    s.traffic R u := by
  unfold State.traffic at h ⊢
  rwa [hbins, hreport]

theorem ConditionUnit.wf_count (u : ConditionUnit) (c : Ctr) (n : Nat) (h : Table.wf Counter.zero u.counters = true) :
    Table.wf Counter.zero (u.count c n).counters = true := Table.wf_set _ _ _ h

theorem State.traffic_count (h : s.traffic R t) (c : Ctr) (n : Nat) : s.traffic R (t.count c n) :=
  .conditions h _ (ConditionUnit.wf_count _ _ _)

theorem State.traffic_raise (h : s.traffic R t) (f : Flag) : s.traffic R (t.raise f) :=
  .conditions h _ fun hu => by rwa [ConditionUnit.raise_counters]

theorem State.traffic_reply (h : s.traffic R t) (result : ResultCode) (content : List Octet) :
    s.traffic R (t.reply result content) := by
  have hkeeps := t.reply_leaves result content
  refine State.traffic_step h (hkeeps .bins (by decide)) ?_
  unfold State.reply
  split <;> rfl

theorem State.traffic_lockAndReply (h : s.traffic R t) (reason : LockReason) (number : Nat) :
    s.traffic R (t.lockAndReply reason number) := by
  have hlocked : s.traffic R ((t.onMgmt fun m => { m with lock := some (reason, number) }).onReport fun r =>
      { r with conditions := r.conditions.lockRises }) := Traffic.conditions h _ fun hu => ?_
  · exact State.traffic_reply hlocked _ _
  unfold ConditionUnit.lockRises
  split
  · rwa [ConditionUnit.gain_counters]
  · exact hu

/-- A bin written without a contribution change. -/
theorem State.traffic_setBin (h : s.traffic R t) {n : Nat} {b : Bin} (hR : R n (t.bin n) b)
    (hsame : b.fill.contribution = (t.bin n).fill.contribution) : s.traffic R (t.setBin n b) := by
  have hwrite := Traffic.write h n b 0 0 hR
  unfold State.bin at hsame
  rwa [hsame, Reporting.applyChange_same] at hwrite

/-- A bin written with its contribution change, other fields and counts between the two. -/
theorem State.traffic_write (h : s.traffic R t) {n : Nat} {b : Bin} (hR : R n (t.bin n) b)
    (hbins : u.table.bins = Table.set Bin.reset n b t.table.bins) (hreport : u.report = t.report) :
    s.traffic R (u.postChange (t.bin n).fill b.fill) := by
  have hwrite := Traffic.write h n b u.now u.mgmt.params.summaryStep hR
  unfold State.traffic
  rwa [State.postChange_table, State.postChange_report, hbins, hreport]

theorem State.traffic_notify (h : s.traffic R t) (selection : BitVec 6) (bin : Nat) (kind : Option BinKind) (test : Bool)
    (g : FillState) (k : NoticeKind) : s.traffic R (t.notify selection bin kind test g k) := by
  unfold State.notify
  split
  · exact h
  · exact .notice h _ _ _

theorem State.traffic_foldl_notify (h : s.traffic R t) (kinds : List NoticeKind) (selection : BitVec 6) (bin : Nat)
    (kind : Option BinKind) (test : Bool) (g : FillState) :
    s.traffic R (kinds.foldl (State.notify selection bin kind test g) t) := by
  induction kinds generalizing t with
  | nil => exact h
  | cons k kinds ih => exact ih (State.traffic_notify h _ _ _ _ _ k)

end Steps

/-! ## Accesses -/

/-- What an access itself may make of a bin: its record and generation stay, and its Fill State but for the entry to
FAULT (R6 to R8). -/
def Bin.accessed (_n : Nat) (b b' : Bin) : Prop :=
  b'.record = b.record ∧ b'.generation = b.generation
    ∧ (b'.fill = b.fill ∨ (b.fill.service = .active ∧ b'.fill = b.fill.faulted))

theorem Bin.tested_frame (b : Bin) (kind : AccessKind) :
    (b.tested kind).record = b.record ∧ (b.tested kind).generation = b.generation ∧ (b.tested kind).fill = b.fill := by
  unfold Bin.tested
  split
  · split <;> exact ⟨rfl, rfl, rfl⟩
  · split <;> exact ⟨rfl, rfl, rfl⟩

section Accesses

variable {R : Nat → Bin → Bin → Prop} {s t : State}

theorem State.traffic_enterFault (hR : ∀ n b b', Bin.accessed n b b' → R n b b') (h : s.traffic R t) (n : Nat)
    (test : Bool) : s.traffic R (t.enterFault n test) := by
  unfold State.enterFault
  dsimp only
  split
  · next hactive =>
    exact State.traffic_notify
      (State.traffic_write (u := t.setBin n { t.bin n with fill := (t.bin n).fill.faulted })
        (b := { t.bin n with fill := (t.bin n).fill.faulted }) h (hR _ _ _ ⟨rfl, rfl, .inr ⟨hactive, rfl⟩⟩) rfl rfl)
      _ _ _ _ _ _
  · exact h

theorem State.traffic_access (hR : ∀ n b b', Bin.accessed n b b' → R n b b') (h : s.traffic R t) (kind : AccessKind)
    (test : Bool) (n : Nat) (w : Wear) : s.traffic R (t.access kind test n w) := by
  obtain ⟨hrecord, hgeneration, hfill⟩ := (t.wornBin n w).tested_frame kind
  have htested : s.traffic R (t.setBin n ((t.wornBin n w).tested kind)) :=
    State.traffic_setBin h (hR _ _ _ ⟨hrecord, hgeneration, .inl hfill⟩) (congrArg FillState.contribution hfill)
  have hcounted (c : Ctr) (f : Flag) := State.traffic_raise (State.traffic_count htested c 1) f
  unfold State.access
  dsimp only
  split
  · exact htested
  · exact hcounted _ _
  · split
    · exact hcounted _ _
    · exact State.traffic_enterFault hR (hcounted _ _) _ _

/-- A granted access. -/
theorem State.traffic_granted (hR : ∀ n b b', Bin.accessed n b b' → R n b b') (r : Requester) (kind : AccessKind)
    (test : Bool) (n : Nat) (w : Wear) : s.traffic R ((s.granted r).access kind test n w) :=
  State.traffic_access hR (State.traffic_step (u := s.granted r) (s.traffic_refl R) rfl rfl) _ _ _ _

theorem State.traffic_read (r : Requester) (kind : AccessKind) (test : Bool) (n : Nat) (w : Wear) :
    s.traffic Bin.accessed ((s.granted r).access kind test n w) :=
  State.traffic_granted (fun _ _ _ h => h) _ _ _ _ _

theorem State.traffic_dropReading (h : s.traffic R t) (c : Ctr) : s.traffic R (t.dropReading c) :=
  State.traffic_step (State.traffic_count h c 1) rfl rfl

theorem State.traffic_park (h : s.traffic R t) (taken : Taken) : s.traffic R (t.park taken) := by
  unfold State.park
  split
  · exact State.traffic_dropReading (State.traffic_step h rfl rfl) _
  · exact State.traffic_dropReading (State.traffic_raise h _) _

theorem State.traffic_checkSequence (h : s.traffic R t) (taken : Taken) (b : Bin) :
    s.traffic R (t.checkSequence taken b) := by
  unfold State.checkSequence
  split
  · exact State.traffic_dropReading h _
  · exact State.traffic_step (State.traffic_count h _ _) rfl rfl
  · exact State.traffic_step h rfl rfl

theorem State.traffic_checkReading (h : s.traffic R t) (taken : Taken) (b : Bin) :
    s.traffic R (t.checkReading taken b) := by
  have hdrop := State.traffic_dropReading h
  unfold State.checkReading
  split
  · exact hdrop _
  · split
    · exact hdrop _
    · split
      · exact hdrop _
      · split
        · exact hdrop _
        · split
          · exact State.traffic_park h _
          · exact State.traffic_checkSequence h _ _

theorem State.traffic_countApplied (h : s.traffic R t) (a : Accepted) (result : FillResult) :
    s.traffic R (t.countApplied a result) := by
  have hif {u : State} (hu : s.traffic R u) (p : Bool) (c : Ctr) : s.traffic R (if p then u.count c 1 else u) := by
    split
    · exact State.traffic_count hu _ _
    · exact hu
  have hall := hif (hif (State.traffic_count (State.traffic_count h .appliedReading 1) .gap a.gapGain) a.sensorRestart
    .sensorRestart) result.isEmptying .emptying
  unfold State.countApplied
  dsimp only
  split
  · exact State.traffic_step hall rfl rfl
  · exact hall

/-- The reports of the counts of an application are those of the reports before them. -/
theorem State.countApplied_report {u v : State} (h : v.report = u.report) (a : Accepted) (result : FillResult) :
    (v.countApplied a result).report = (u.countApplied a result).report := by
  unfold State.countApplied
  cases a.sensorRestart <;> cases result.isEmptying <;> cases a.taken.reading.isTest <;> simp [h]

theorem State.traffic_endVisit (h : s.traffic R t) : s.traffic R t.endVisit := by
  have hmoved (f : SweepEngine → SweepEngine) : s.traffic R ((t.count .sweepVisit 1).onSweep f) :=
    State.traffic_step (State.traffic_count h .sweepVisit 1) rfl rfl
  have hended (f : SweepEngine → SweepEngine) : s.traffic R
      (if t.sweep.cursor = t.sweep.last then ((t.count .sweepVisit 1).onSweep f).count .sweepEnd 1
        else (t.count .sweepVisit 1).onSweep f) := by
    split
    · exact State.traffic_count (hmoved f) _ _
    · exact hmoved f
  unfold State.endVisit
  dsimp only
  by_cases hsuspend : (t.mgmt.stage == .suspend) = true
  · rw [if_pos hsuspend]
    exact State.traffic_reply (hended _) _ _
  · rw [if_neg hsuspend]
    exact hended _

theorem State.traffic_judgeVisit (h : s.traffic R t) (b : Bin) : s.traffic R (t.judgeVisit b) := by
  unfold State.judgeVisit
  split
  · exact State.traffic_endVisit (State.traffic_count h _ _)
  · split
    · exact State.traffic_endVisit h
    · split
      · exact State.traffic_endVisit h
      · split
        · exact State.traffic_step h rfl rfl
        · exact State.traffic_endVisit h

theorem State.traffic_useFree (h : s.traffic R t) (n : Nat) : s.traffic R (t.useFree n) := by
  unfold State.useFree
  split
  · exact State.traffic_step h rfl rfl
  · exact h

end Accesses

/-! ## The commands that access bins -/

section Commands

variable (s : State)

theorem execRecordFetch_traffic (wear : Wear) : EveryNext (s.traffic Bin.accessed) (execRecordFetch wear s) := by
  unfold execRecordFetch
  split
  · split
    · dsimp only
      split
      · exact everyNext_next.2 (State.traffic_dropReading (State.traffic_read _ _ _ _ _) _)
      · exact everyNext_next.2 (State.traffic_checkReading (State.traffic_read _ _ _ _ _) _ _)
      · exact everyNext_next.2 (State.traffic_checkReading (State.traffic_read _ _ _ _ _) _ _)
    · exact everyNext_next.2 (s.traffic_refl _)
  · exact everyNext_next.2 (s.traffic_refl _)

theorem execVisit_traffic (wear : Wear) : EveryNext (s.traffic Bin.accessed) (execVisit wear s) := by
  unfold execVisit
  split
  · dsimp only
    split
    · exact everyNext_next.2 (State.traffic_endVisit (State.traffic_read _ _ _ _ _))
    · exact everyNext_next.2 (State.traffic_judgeVisit (State.traffic_read _ _ _ _ _) _)
    · exact everyNext_next.2 (State.traffic_judgeVisit (State.traffic_read _ _ _ _ _) _)
  · exact everyNext_next.2 (s.traffic_refl _)

theorem execConvertedRead_traffic (wear : Wear) : EveryNext (s.traffic Bin.accessed) (execConvertedRead wear s) := by
  unfold execConvertedRead
  split
  · split
    · dsimp only
      split <;> exact everyNext_next.2 (State.traffic_reply (State.traffic_read _ _ _ _ _) _ _)
    · exact everyNext_next.2 (s.traffic_refl _)
  · exact everyNext_next.2 (s.traffic_refl _)

theorem execBinReadAccess_traffic (wear : Wear) : EveryNext (s.traffic Bin.accessed) (execBinReadAccess wear s) := by
  unfold execBinReadAccess
  split
  · split
    · dsimp only
      split <;>
        exact everyNext_next.2 (State.traffic_useFree (State.traffic_reply (State.traffic_read _ _ _ _ _) _ _) _)
    · exact everyNext_next.2 (s.traffic_refl _)
  · exact everyNext_next.2 (s.traffic_refl _)

theorem execBinScan_traffic (wear : Wear) : EveryNext (s.traffic Bin.accessed) (execBinScan wear s) := by
  unfold execBinScan
  split
  · split
    · dsimp only
      split
      · exact everyNext_next.2 (State.traffic_lockAndReply (State.traffic_read _ _ _ _ _) _ _)
      · exact everyNext_next.2 (State.traffic_step (State.traffic_read _ _ _ _ _) rfl rfl)
    · exact everyNext_next.2 (s.traffic_refl _)
  · exact everyNext_next.2 (s.traffic_refl _)

/-- The write of a run (R51) to a bin that the reading in hand names. -/
def ReadingUnit.runWritten (reader : ReadingUnit) (n : Nat) (b b' : Bin) : Prop :=
  ∃ t generation run, reader = .runWrite t generation run ∧ n = t.reading.bin ∧ b.fill.service = .active
    ∧ b' = { b with fill := { b.fill with outOfOrderRun := run } }

theorem execRunWrite_traffic (wear : Wear) :
    EveryNext (s.traffic fun n b b' => Bin.accessed n b b' ∨ s.reader.runWritten n b b') (execRunWrite wear s) := by
  unfold execRunWrite
  split
  · next t generation run hreader =>
    split
    · dsimp only
      have hwrite := State.traffic_granted (s := s)
        (R := fun n b b' => Bin.accessed n b b' ∨ s.reader.runWritten n b b')
        (fun _ _ _ => .inl) .readingUnit .write false t.reading.bin wear
      split
      · next hcheck =>
        refine everyNext_next.2 (State.traffic_step (State.traffic_setBin hwrite
          (.inr ⟨t, generation, run, hreader, rfl, hcheck.2, rfl⟩) ?_) rfl rfl)
        unfold FillState.contribution
        rfl
      · exact everyNext_next.2 (State.traffic_step hwrite rfl rfl)
    · exact everyNext_next.2 (s.traffic_refl _)
  · exact everyNext_next.2 (s.traffic_refl _)

/-- The write of an application (R53, R71). -/
def ReadingUnit.applicationWritten (reader : ReadingUnit) (n : Nat) (b b' : Bin) : Prop :=
  ∃ a result now reception, reader = .apply a result ∧ n = a.taken.reading.bin ∧ b.generation = a.generation
    ∧ b.fill.service = .active ∧ b' = { b with fill := b.fill.applied a result now reception }

theorem execApplication_traffic (wear : Wear) :
    EveryNext (s.traffic fun n b b' => Bin.accessed n b b' ∨ s.reader.applicationWritten n b b')
      (execApplication wear s) := by
  unfold execApplication
  split
  · next a result hreader =>
    split
    · dsimp only
      have hwrite := State.traffic_granted (s := s)
        (R := fun n b b' => Bin.accessed n b b' ∨ s.reader.applicationWritten n b b')
        (fun _ _ _ => .inl) .readingUnit .write a.taken.reading.isTest a.taken.reading.bin wear
      split
      · exact everyNext_next.2 (State.traffic_dropReading hwrite _)
      · next hgeneration =>
        split
        · exact everyNext_next.2 (State.traffic_dropReading hwrite _)
        · next hactive =>
          refine everyNext_next.2 ?_
          unfold State.makeApplication
          dsimp only
          refine State.traffic_step (State.traffic_foldl_notify ?_ _ _ _ _ _ _) rfl rfl
          generalize (s.granted .readingUnit).access .write a.taken.reading.isTest a.taken.reading.bin wear = u at *
          have hbins (v : State) : (v.countApplied a result).table.bins = v.table.bins :=
            v.countApplied_leaves a result .bins (by decide)
          have hbin : (u.countApplied a result).bin a.taken.reading.bin = u.bin a.taken.reading.bin := by
            unfold State.bin
            rw [hbins]
          rw [← hbin]
          refine State.traffic_write (State.traffic_countApplied hwrite a result) (.inr ⟨a, result, u.now,
            u.receptionFor a.taken, hreader, rfl, ?_, ?_, rfl⟩) ?_ ?_
          · rw [hbin]
            exact Decidable.not_not.1 hgeneration
          · rw [hbin]
            exact Decidable.not_not.1 hactive
          · rw [hbins, hbins]
            rfl
          · apply State.countApplied_report
            rfl
    · exact everyNext_next.2 (s.traffic_refl _)
  · exact everyNext_next.2 (s.traffic_refl _)

/-- The write of a reception record by a write-back (R43). -/
def Bin.receptionWritten (_n : Nat) (b b' : Bin) : Prop :=
  ∃ reception, b' = { b with fill := { b.fill with reception := some reception } }

theorem execWriteBack_traffic (wear : Wear) :
    EveryNext (s.traffic fun n b b' => Bin.accessed n b b' ∨ Bin.receptionWritten n b b') (execWriteBack wear s) := by
  unfold execWriteBack
  split
  · next e _ _ _ =>
    split
    · dsimp only
      have hwrite := State.traffic_granted (s := s)
        (R := fun n b b' => Bin.accessed n b b' ∨ Bin.receptionWritten n b b')
        (fun _ _ _ => .inl) .arrivalFilter .write false e.bin wear
      split
      · refine everyNext_next.2 (State.traffic_count (State.traffic_step (State.traffic_setBin hwrite
          (.inr ⟨e.reception, rfl⟩) ?_) rfl rfl) _ _)
        unfold FillState.contribution
        rfl
      · exact everyNext_next.2 (State.traffic_count (State.traffic_step hwrite rfl rfl) _ _)
    · exact everyNext_next.2 (s.traffic_refl _)
  · exact everyNext_next.2 (s.traffic_refl _)

/-- The stale write (R125). -/
def Bin.staleWritten (_n : Nat) (b b' : Bin) : Prop :=
  b.fill.service = .active ∧ b' = { b with fill := { b.fill with stale := true } }

theorem execStaleWrite_traffic (wear : Wear) :
    EveryNext (s.traffic fun n b b' => Bin.accessed n b b' ∨ Bin.staleWritten n b b') (execStaleWrite wear s) := by
  have hwrite := State.traffic_granted (s := s)
    (R := fun n b b' => Bin.accessed n b b' ∨ Bin.staleWritten n b b')
    (fun _ _ _ => .inl) .sweepEngine .write false s.sweep.cursor wear
  unfold execStaleWrite
  split
  · split
    · dsimp only
      split
      · next hcheck =>
        refine everyNext_next.2 (State.traffic_endVisit ?_)
        have hcursor : ((s.granted .sweepEngine).access .write false s.sweep.cursor wear).sweep.cursor = s.sweep.cursor :=
          congrArg SweepEngine.cursor (s.granted_access_leaves .sweepEngine .write false s.sweep.cursor wear .sweep (by decide))
        generalize (s.granted .sweepEngine).access .write false s.sweep.cursor wear = u at *
        unfold State.markStale
        dsimp only
        rw [hcursor]
        exact State.traffic_count (State.traffic_step (State.traffic_notify (State.traffic_write
          (u := u.setBin s.sweep.cursor { u.bin s.sweep.cursor with fill := { (u.bin s.sweep.cursor).fill with stale := true } })
          (b := { u.bin s.sweep.cursor with fill := { (u.bin s.sweep.cursor).fill with stale := true } })
          hwrite (.inr ⟨hcheck.2.2.2, rfl⟩) rfl rfl) _ _ _ _ _ _) rfl rfl) _ _
      · exact everyNext_next.2 (State.traffic_endVisit (State.traffic_count hwrite _ _))
    · exact everyNext_next.2 (s.traffic_refl _)
  · exact everyNext_next.2 (s.traffic_refl _)

/-- The load of a BIN LOAD (R20). -/
def Stage.loadWritten (stage : Stage) (n : Nat) (b b' : Bin) : Prop :=
  ∃ record poison finding now, stage = .load n record poison ∧ b' = loadedBin record poison finding now b

theorem execLoadGrant_traffic (wear : Wear) :
    EveryNext (s.traffic fun n b b' => Bin.accessed n b b' ∨ s.mgmt.stage.loadWritten n b b') (execLoadGrant wear s) := by
  unfold execLoadGrant
  split
  · next n record poison hstage =>
    split
    · have hread := State.traffic_granted (s := s)
        (R := fun n b b' => Bin.accessed n b b' ∨ s.mgmt.stage.loadWritten n b b')
        (fun _ _ _ => .inl) .managementUnit .load false n wear
      refine everyNext_next.2 ?_
      unfold State.load
      dsimp only
      exact State.traffic_reply (State.traffic_foldl_notify (State.traffic_write (u := State.setBin _ _ _) hread
        (.inr ⟨record, poison, _, _, hstage, rfl⟩) rfl rfl) _ _ _ _ _ _) _ _
    · exact everyNext_next.2 (s.traffic_refl _)
  · exact everyNext_next.2 (s.traffic_refl _)

/-- What the commands but the load grant write to a bin with their access: the opening of the access, and the write of
the run, of the application, of the write-back, or of the stale write. -/
def State.fillWritten (s : State) (n : Nat) (b b' : Bin) : Prop :=
  Bin.accessed n b b' ∨ s.reader.runWritten n b b' ∨ s.reader.applicationWritten n b b' ∨ Bin.receptionWritten n b b'
    ∨ Bin.staleWritten n b b'

/-- Everything that a command writes to a bin with its access. -/
def State.binWritten (s : State) (n : Nat) (b b' : Bin) : Prop := s.fillWritten n b b' ∨ s.mgmt.stage.loadWritten n b b'

/-- A command that accesses bins at the table port. -/
def accessesBins : Instr → Bool
  | .recordFetch _ | .runWrite _ | .application _ | .writeBack _ | .visit _ | .staleWrite _ | .loadGrant _
  | .convertedRead _ | .binReadAccess _ | .binScan _ => true
  | _ => false

/-- What the commands that access bins, but the load grant, do to the bins and the reports. -/
theorem exec_fillTraffic {c : Instr} (hc : accessesBins c = true) (hload : ∀ wear, c ≠ .loadGrant wear) :
    EveryNext (s.traffic s.fillWritten) (exec c s) := by
  have hmono {R : Nat → Bin → Bin → Prop} {o : Out} (h : EveryNext (s.traffic R) o)
      (hR : ∀ n b b', R n b b' → s.fillWritten n b b') : EveryNext (s.traffic s.fillWritten) o :=
    fun t ht => (h t ht).mono hR
  cases c with
  | recordFetch wear => exact hmono (execRecordFetch_traffic s wear) fun _ _ _ h => .inl h
  | visit wear => exact hmono (execVisit_traffic s wear) fun _ _ _ h => .inl h
  | convertedRead wear => exact hmono (execConvertedRead_traffic s wear) fun _ _ _ h => .inl h
  | binReadAccess wear => exact hmono (execBinReadAccess_traffic s wear) fun _ _ _ h => .inl h
  | binScan wear => exact hmono (execBinScan_traffic s wear) fun _ _ _ h => .inl h
  | runWrite wear => exact hmono (execRunWrite_traffic s wear) fun _ _ _ h => h.imp_right .inl
  | application wear => exact hmono (execApplication_traffic s wear) fun _ _ _ h => h.imp_right fun h => .inr (.inl h)
  | writeBack wear =>
    exact hmono (execWriteBack_traffic s wear) fun _ _ _ h => h.imp_right fun h => .inr (.inr (.inl h))
  | staleWrite wear =>
    exact hmono (execStaleWrite_traffic s wear) fun _ _ _ h => h.imp_right fun h => .inr (.inr (.inr h))
  | loadGrant wear => exact absurd rfl (hload wear)
  | _ => simp [accessesBins] at hc

/-- What the commands that access bins do to the bins and the reports. -/
theorem exec_traffic {c : Instr} (hc : accessesBins c = true) : EveryNext (s.traffic s.binWritten) (exec c s) := by
  by_cases hload : ∃ wear, c = .loadGrant wear
  · obtain ⟨wear, rfl⟩ := hload
    exact fun t ht => (execLoadGrant_traffic s wear t ht).mono fun _ _ _ h => h.imp_left .inl
  · exact fun t ht => (exec_fillTraffic s hc (fun wear e => hload ⟨wear, e⟩) t ht).mono fun _ _ _ => .inl

end Commands

end Sys2Proof.Machine

/-! The canonical form of the numbered stores, kept by every step (log entry 21). -/

namespace Sys2Proof.Machine

/-! ## Changes and notices, operation by operation -/

/-- A property that tallies written, counts and offers to one channel keep is kept by a contribution change. -/
theorem Reporting.applyChange_induction {P : Reporting → Prop} (htally : ∀ r z t, P r → P (r.setTally z t))
    (hcount : ∀ r c n, P r → P (r.count c n)) (hoffer : ∀ r now z n, P r → P (r.offerZoneTo now z n))
    {r : Reporting} (hr : P r) (now step : Nat) (old new : Contribution) : P (r.applyChange now step old new) := by
  have hchange (zone : Option Nat) (f : Tally → Tally) (r : Reporting) (h : P r) : P (r.changeTally zone f) := by
    cases zone with
    | none => exact h
    | some z => exact htally _ _ _ h
  have htest (before : Table Tally) (r : Reporting) (z : Nat) (h : P r) : P (Reporting.testZone now step before r z) := by
    unfold Reporting.testZone
    dsimp only
    split
    · exact List.foldlRecOn _ _ (hcount _ _ _ (htally _ _ _ h)) fun r hr n _ => hoffer r now z n hr
    · exact h
  unfold Reporting.applyChange
  split
  · exact hr
  · exact List.foldlRecOn _ _ (hchange _ _ _ (hchange _ _ _ hr)) fun r h z _ => htest _ r z h

/-- A property that counts and offers to one channel keep is kept by a notice made or withheld. -/
theorem Reporting.notify_induction {P : Reporting → Prop} (hcount : ∀ r c n, P r → P (r.count c n))
    (hoffer : ∀ r now x n, P r → P (r.offerNoticeTo now x n)) {r : Reporting} (hr : P r) (now : Nat) (selected : Bool)
    (x : Notice) : P (r.notify now selected x) := by
  unfold Reporting.notify
  split
  · exact List.foldlRecOn _ _ (hcount _ _ _ hr) fun r hr n _ => hoffer r now x n hr
  · exact hcount _ _ _ hr

/-! ## The reporting blocks -/

/-- The three stores of the reporting blocks are canonical. -/
structure Reporting.Canonical (r : Reporting) : Prop where
  zones : Table.wf Tally.zero r.zones = true
  channels : Table.wf Channel.reset r.channels = true
  counters : Table.wf Counter.zero r.conditions.counters = true

section Canonical

variable {r : Reporting} (h : r.Canonical)
include h

theorem Reporting.Canonical.setTally (z : Nat) (t : Tally) : (r.setTally z t).Canonical :=
  { h with zones := Table.wf_set _ _ _ h.zones }

theorem Reporting.Canonical.setChannel (n : Nat) (c : Channel) : (r.setChannel n c).Canonical :=
  { h with channels := Table.wf_set _ _ _ h.channels }

theorem Reporting.Canonical.count (c : Ctr) (n : Nat) : (r.count c n).Canonical :=
  { h with counters := ConditionUnit.wf_count _ _ _ h.counters }

theorem Reporting.Canonical.raise (f : Flag) : (r.raise f).Canonical :=
  { h with counters := by rw [Reporting.raise_conditions, ConditionUnit.raise_counters]; exact h.counters }

theorem Reporting.Canonical.settle (now n : Nat) : (r.settle now n).Canonical := by
  rcases r.settle_cases now n with ⟨_, e⟩ | ⟨_, e⟩
  · rwa [e]
  · rw [e]
    exact (h.setChannel n _).raise _

theorem Reporting.Canonical.offerZoneTo (now zone n : Nat) : (r.offerZoneTo now zone n).Canonical := by
  unfold Reporting.offerZoneTo
  dsimp only
  split
  · exact (h.setChannel n _).settle now n
  · exact h

theorem Reporting.Canonical.offerNoticeTo (now : Nat) (x : Notice) (n : Nat) : (r.offerNoticeTo now x n).Canonical := by
  unfold Reporting.offerNoticeTo
  dsimp only
  split
  · split
    · exact (h.setChannel n _).settle now n
    · exact (h.setChannel n _).raise _
  · exact h

theorem Reporting.Canonical.applyChange (now step : Nat) (old new : Contribution) :
    (r.applyChange now step old new).Canonical :=
  Reporting.applyChange_induction (fun _ z t h => h.setTally z t) (fun _ c n h => h.count c n)
    (fun _ now z n h => h.offerZoneTo now z n) h now step old new

theorem Reporting.Canonical.notify (now : Nat) (selected : Bool) (x : Notice) : (r.notify now selected x).Canonical :=
  Reporting.notify_induction (fun _ c n h => h.count c n) (fun _ now x n h => h.offerNoticeTo now x n) h now selected x

theorem Reporting.Canonical.boundaryTo (now n : Nat) : (r.boundaryTo now n).Canonical :=
  (h.setChannel n _).settle now n

theorem Reporting.Canonical.syncZones (now n : Nat) (zones : List Nat) : (r.syncZones now n zones).1.Canonical := by
  induction zones generalizing r with
  | nil => exact h
  | cons zone zones ih => exact ih ((h.setChannel n _).settle now n)

end Canonical

/-- Traffic of bins and reports keeps their stores canonical. -/
theorem Traffic.canonical {R : Nat → Bin → Bin → Prop} {bins bins' : Table Bin} {r r' : Reporting}
    (h : Traffic R bins r bins' r') (hbins : Table.wf Bin.reset bins = true) (hr : r.Canonical) :
    Table.wf Bin.reset bins' = true ∧ r'.Canonical := by
  induction h with
  | start => exact ⟨hbins, hr⟩
  | conditions _ u hu ih => exact ⟨ih.1, { ih.2 with counters := hu ih.2.counters }⟩
  | write _ n b now step _ ih => exact ⟨Table.wf_set _ _ _ ih.1, ih.2.applyChange _ _ _ _⟩
  | notice _ now selected x ih => exact ⟨ih.1, ih.2.notify _ _ _⟩

/-! ## Report by command -/

section Reports

variable {s t : State}

theorem State.canonical_countRaise (h : s.report.Canonical) (c : Ctr) (f : Flag) :
    ((s.count c 1).raise f).report.Canonical := (h.count c 1).raise f

theorem State.canonical_offerSensor (h : s.report.Canonical) (x : Reading) : (s.offerSensor x).report.Canonical := by
  unfold State.offerSensor
  split
  · exact h.count _ _
  · split
    · exact State.canonical_countRaise h _ _
    · dsimp only
      split
      · exact h.raise _
      · exact h

theorem State.canonical_offerTrunk (h : s.report.Canonical) (x : TrunkFrame) : (s.offerTrunk x).report.Canonical := by
  unfold State.offerTrunk
  split
  · exact State.canonical_countRaise h _ _
  · exact h

theorem State.canonical_judgeFrame (h : s.report.Canonical) (l : Link) (f : Frame) :
    (s.judgeFrame l f).report.Canonical := by
  cases l with
  | field =>
    show (s.judgeField f).report.Canonical
    unfold State.judgeField State.offerPassThrough
    split
    · split
      · exact State.canonical_offerSensor h _
      · exact h.count _ _
    · split
      · split
        · exact State.canonical_countRaise h _ _
        · exact h
      · exact h.count _ _
  | trunk =>
    show (s.judgeTrunk f).report.Canonical
    unfold State.judgeTrunk
    split
    · exact State.canonical_offerTrunk h _
    · split
      · split
        · exact h.count _ _
        · split
          · exact State.canonical_offerTrunk h _
          · exact h.count _ _
      · exact h.count _ _

theorem State.canonical_foldl_arrive (h : s.report.Canonical) (l : Link) (octets : List LineOctet) :
    (octets.foldl (State.arrive l) s).report.Canonical :=
  State.foldl_arrive_induction (P := fun t => t.report.Canonical) (fun t rx h => by rwa [State.setReceiver_report])
    (fun _ f h => State.canonical_judgeFrame h l f) (fun _ h => State.canonical_countRaise h _ _)
    (fun _ h => h.count _ _) octets h

theorem State.canonical_routeTrunk (h : s.report.Canonical) (f : TrunkFrame) : (s.routeTrunk f).report.Canonical := by
  unfold State.routeTrunk State.offerFieldEgress State.refuse
  split
  · split
    · exact State.canonical_countRaise h _ _
    · exact h
  · split
    · exact h
    · split <;> exact h.count _ _

theorem State.canonical_slotAccess (h : s.report.Canonical) (bank : Bank) (n : Nat) (w : Wear) :
    (s.slotAccess bank n w).report.Canonical := by
  unfold State.slotAccess
  dsimp only
  split
  · exact h
  · exact State.canonical_countRaise (s := State.mk ..) h _ _
  · split
    · exact h
    · exact State.canonical_countRaise (s := State.mk ..) h _ _

theorem State.canonical_testSlots (h : s.report.Canonical) (bank : Bank) (slots : List Nat) (wear : List Wear) :
    (s.testSlots bank slots wear).1.report.Canonical := by
  induction slots generalizing s wear with
  | nil => exact h
  | cons slot slots ih =>
    have hread := State.canonical_slotAccess h bank slot (wear.headD .steady)
    unfold State.testSlots
    dsimp only
    split
    · split
      · exact hread
      · split
        · exact ih hread _
        · exact hread
    · exact ih h _

theorem State.reply_report (s : State) (result : ResultCode) (content : List Octet) :
    (s.reply result content).report = s.report := by
  unfold State.reply
  split <;> rfl

theorem State.canonical_reply (h : s.report.Canonical) (result : ResultCode) (content : List Octet) :
    (s.reply result content).report.Canonical := by rwa [State.reply_report]

/-- A reply after a change of the Condition Unit that keeps its counters canonical. -/
theorem State.canonical_conditions (h : s.report.Canonical) (f : ConditionUnit → ConditionUnit)
    (hf : Table.wf Counter.zero (f s.report.conditions).counters = true) (result : ResultCode) (content : List Octet) :
    ((s.onConditions f).reply result content).report.Canonical :=
  State.canonical_reply (s := s.onConditions f) { h with counters := hf } _ _

/-- A request that keeps the reports canonical. -/
theorem State.canonical_serve {k : RequestKind} {bare : List Octet} {rule : List Octet → State → State}
    (h : s.report.Canonical) (hrule : ∀ args, (rule args s).report.Canonical) :
    (s.serve k bare rule).report.Canonical :=
  State.serve_induction (P := fun t => t.report.Canonical) h (State.canonical_reply h _ _) fun r _ => hrule r.args

theorem State.canonical_onChannelNamed {args : List Octet} {rule : Nat → State → State} (h : s.report.Canonical)
    (hrule : ∀ n, (rule n s).report.Canonical) : (s.onChannelNamed args rule).report.Canonical :=
  State.onChannelNamed_induction (P := fun t => t.report.Canonical) (State.canonical_reply h _ _) fun _ => hrule _

/-- Parts of the reports left exactly as they were are as canonical as before. -/
theorem State.canonical_of_agrees (h : s.report.Canonical) (hz : s.agrees t .tallies) (hc : s.agrees t .channels)
    (hk : s.agrees t .counters) : t.report.Canonical where
  zones := by rw [show t.report.zones = _ from hz]; exact h.zones
  channels := by rw [show t.report.channels = _ from hc]; exact h.channels
  counters := by rw [show t.report.conditions.counters = _ from hk]; exact h.counters

theorem State.canonical_takeBoundary (h : s.report.Canonical) : s.takeBoundary.report.Canonical := by
  unfold State.takeBoundary
  split
  · have hfold (numbers : List Nat) (r : Reporting) (hr : r.Canonical) :
        (numbers.foldl (Reporting.boundaryTo s.now) r).Canonical :=
      List.foldlRecOn _ _ hr fun r hr n _ => hr.boundaryTo _ n
    rw [State.onReport_report]
    exact hfold _ _ ⟨h.zones, h.channels, h.counters⟩
  · exact h

theorem State.canonical_restarted (h : s.report.Canonical) (now : Nat) : (s.report.restarted now).Canonical where
  zones := h.zones
  channels := Table.wf_mapEntries _ _ ((Table.wf_iff _ _).1 h.channels).1
  counters := rfl

theorem State.canonical_tableCleared (h : s.report.Canonical) : s.tableCleared.report.Canonical :=
  { h with zones := Table.wf_mapEntries _ _ ((Table.wf_iff _ _).1 h.zones).1 }

theorem State.canonical_serveCredit (h : s.report.Canonical) (args : List Octet) (n : Nat) :
    (s.serveCredit args n).report.Canonical := by
  unfold State.serveCredit
  dsimp only
  split
  · exact State.canonical_reply h _ _
  · exact State.canonical_reply (h.setChannel _ _) _ _

theorem State.canonical_serveChannelSet (h : s.report.Canonical) (args : List Octet) (n : Nat) :
    (s.serveChannelSet args n).report.Canonical := by
  unfold State.serveChannelSet
  split
  · exact State.canonical_reply h _ _
  · exact State.canonical_reply (h.setChannel _ _) _ _

theorem State.canonical_serveSync (h : s.report.Canonical) (n : Nat) : (s.serveSync n).report.Canonical := by
  unfold State.serveSync
  dsimp only
  split
  · exact State.canonical_reply h _ _
  · exact State.canonical_reply (s := State.mk ..) (h.syncZones _ _ _) _ _

theorem State.canonical_serveAlertSet (h : s.report.Canonical) (args : List Octet) :
    (s.serveAlertSet args).report.Canonical := by
  unfold State.serveAlertSet
  split
  · exact State.canonical_reply h _ _
  · refine State.canonical_conditions h _ ?_ _ _
    unfold ConditionUnit.alertSet
    dsimp only
    split
    · exact h.counters
    · rw [ConditionUnit.gain_counters]
      exact h.counters

theorem State.canonical_serveAlertClear (h : s.report.Canonical) (args : List Octet) :
    (s.serveAlertClear args).report.Canonical := State.canonical_conditions h _ h.counters _ _

theorem State.canonical_serveSnapshot (h : s.report.Canonical) (args : List Octet) :
    (s.serveSnapshot args).report.Canonical := by
  unfold State.serveSnapshot
  split
  · exact State.canonical_reply h _ _
  · exact State.canonical_conditions h _ (Table.wf_mapEntries _ _ ((Table.wf_iff _ _).1 h.counters).1) _ _

theorem State.canonical_serveCurveRead (h : s.report.Canonical) (wear : Wear) (args : List Octet) :
    (s.serveCurveRead wear args).report.Canonical := by
  unfold State.serveCurveRead
  dsimp only
  split
  · exact State.canonical_reply h _ _
  · split
    · exact State.canonical_reply h _ _
    · split <;> exact State.canonical_reply (State.canonical_slotAccess h _ _ _) _ _

theorem State.lockRises_counters (u : ConditionUnit) : u.lockRises.counters = u.counters := by
  unfold ConditionUnit.lockRises
  split <;> simp

theorem State.canonical_lockAndReply (h : s.report.Canonical) (reason : LockReason) (number : Nat) :
    (s.lockAndReply reason number).report.Canonical := by
  have hlocked : ((s.onMgmt fun m => { m with lock := some (reason, number) }).onReport fun r =>
      { r with conditions := r.conditions.lockRises }).report.Canonical :=
    ⟨h.zones, h.channels, (congrArg _ (State.lockRises_counters _)).trans h.counters⟩
  exact State.canonical_reply hlocked _ _

theorem State.canonical_serveCurveSwap (h : s.report.Canonical) (wear : List Wear) :
    (s.serveCurveSwap wear).report.Canonical := by
  have htested := State.canonical_testSlots h s.curves.active.other (List.range 32) wear
  unfold State.serveCurveSwap
  dsimp only
  split
  · exact State.canonical_lockAndReply htested _ _
  · exact htested

theorem State.canonical_holdReading (h : s.report.Canonical) (a : Accepted) (cause : HoldCause) :
    (s.holdReading a cause).report.Canonical := h.count _ _

end Reports

theorem State.takeHoldExpiry_report (s : State) (segment : Nat) : (s.takeHoldExpiry segment).report = s.report := by
  unfold State.takeHoldExpiry
  split <;> rfl

theorem State.takeAutoExpiry_report (s : State) : s.takeAutoExpiry.report = s.report := by
  unfold State.takeAutoExpiry
  split <;> rfl

theorem State.foldl_takeHoldExpiry_report (s : State) (segments : List Nat) :
    (segments.foldl (fun t segment => t.takeHoldExpiry segment) s).report = s.report :=
  foldl_keeps State.report _ (fun _ _ => State.takeHoldExpiry_report _ _) _ _

theorem State.canonical_overdueEvents {s : State} (h : s.report.Canonical) : s.overdueEvents.report.Canonical := by
  have hboundary (u : State) (hu : u.report = s.report) : u.takeBoundary.takeHoldoffEnd.report.Canonical := by
    have hbefore := State.canonical_takeBoundary (s := u) (by rwa [hu])
    have hend := u.takeBoundary.takeHoldoffEnd_leaves
    exact State.canonical_of_agrees hbefore (hend .tallies (by decide)) (hend .channels (by decide))
      (hend .counters (by decide))
  unfold State.overdueEvents
  exact hboundary _ (by rw [State.takeAutoExpiry_report, State.foldl_takeHoldExpiry_report])

/-- Every command keeps the stores of the reporting blocks canonical. -/
theorem exec_keeps_reportCanonical (c : Instr) {s : State} (hbins : Table.wf Bin.reset s.table.bins = true)
    (h : s.report.Canonical) : EveryNext (fun t => t.report.Canonical) (exec c s) := by
  have hother (hz : .tallies ∉ changedParts c) (hc : .channels ∉ changedParts c) (hk : .counters ∉ changedParts c) :
      EveryNext (fun t => t.report.Canonical) (exec c s) := fun t ht =>
    State.canonical_of_agrees h (exec_agrees ht hz) (exec_agrees ht hc) (exec_agrees ht hk)
  cases c with
  | deviceReset => exact everyNext_next.2 { zones := rfl, channels := rfl, counters := rfl }
  | fldRxFrame octets => exact everyNext_next.2 (State.canonical_foldl_arrive h _ octets)
  | trkRxFrame octets => exact everyNext_next.2 (State.canonical_foldl_arrive h _ octets)
  | lengthOctetError link octet =>
    dsimp only [exec, execLengthOctetError]
    split
    · exact everyNext_next.2 (State.canonical_foldl_arrive h link [octet])
    · exact everyNext_next.2 h
  | trunkIngressRoute =>
    dsimp only [exec, execTrunkIngressRoute]
    split
    · exact everyNext_next.2 h
    · refine everyNext_next.2 (State.canonical_routeTrunk ?_ _)
      exact h
  | creditOutNotice =>
    dsimp only [exec, execCreditOutNotice]
    split
    · split
      · exact everyNext_next.2 ((h.setChannel _ _).count _ _)
      · exact everyNext_next.2 h
    · exact everyNext_next.2 h
  | reportFrame =>
    dsimp only [exec, execReportFrame]
    split
    · split
      · exact everyNext_next.2 h
      · exact everyNext_next.2 (((h.setChannel _ _).settle _ _).count _ _)
    · exact everyNext_next.2 h
  | partTimeTick =>
    refine everyNext_next.2 ?_
    have hcount := s.overdueEvents.countTick_leaves
    exact State.canonical_of_agrees (State.canonical_overdueEvents h) (hcount .tallies (by decide))
      (hcount .channels (by decide)) (hcount .counters (by decide))
  | paceBoundary => exact everyNext_next.2 (State.canonical_takeBoundary h)
  | testIntervalExpiry =>
    dsimp only [exec, execTestIntervalExpiry]
    split
    · exact everyNext_next.2 (State.canonical_offerSensor (s := s.onTest _) h _)
    · exact everyNext_next.2 h
  | copy =>
    dsimp only [exec, execCopy]
    split
    · exact everyNext_next.2 h
    · split
      · exact everyNext_next.2 (h.count _ _)
      · exact everyNext_next.2 h
  | eviction =>
    dsimp only [exec, execEviction]
    split
    · exact everyNext_next.2 h
    · split
      · exact everyNext_next.2 (h.count _ _)
      · exact everyNext_next.2 h
  | fillComputation wear =>
    dsimp only [exec, execFillComputation]
    split
    · split
      · exact everyNext_next.2 (State.canonical_holdReading h _ _)
      · split
        · split
          · exact everyNext_next.2 (State.canonical_holdReading (State.canonical_slotAccess h _ _ _) _ _)
          · exact everyNext_next.2 (State.canonical_slotAccess h _ _ _)
        · exact everyNext_fault
    · exact everyNext_next.2 h
  | recordFetch | runWrite | application | writeBack | visit | staleWrite | loadGrant | convertedRead | binReadAccess
  | binScan => exact fun t ht => ((exec_traffic s rfl t ht).canonical hbins h).2
  | tableWideClear =>
    dsimp only [exec, execTableWideClear]
    split
    · exact everyNext_next.2 (State.canonical_tableCleared (s := s.withdrawn) h)
    · exact everyNext_next.2 h
  | restartCarriedOut =>
    dsimp only [exec, execRestartCarriedOut]
    split
    · exact everyNext_next.2 (State.canonical_restarted (s := s.withdrawn.tableCleared)
        (State.canonical_tableCleared (s := s.withdrawn) h) _)
    · exact everyNext_next.2 (State.canonical_restarted (s := s.withdrawn) h _)
    · exact everyNext_next.2 h
  | curveRead wear =>
    exact everyNext_next.2 (State.canonical_serve h (State.canonical_serveCurveRead h wear))
  | curveSwap wear =>
    exact everyNext_next.2 (State.canonical_serve h fun _ =>
      State.unlessLocked_induction (P := fun t => t.report.Canonical) (State.canonical_reply h _ _) fun _ =>
        State.canonical_serveCurveSwap h wear)
  | sweepStart => exact hother (by decide) (by decide) (by decide)
  | channelSet =>
    exact everyNext_next.2 (State.canonical_serve h fun args =>
      State.canonical_onChannelNamed h (State.canonical_serveChannelSet h args))
  | channelClose =>
    exact everyNext_next.2 (State.canonical_serve h fun _ =>
      State.canonical_onChannelNamed h fun _ => State.canonical_reply (h.setChannel _ _) _ _)
  | credit =>
    exact everyNext_next.2 (State.canonical_serve h fun args =>
      State.canonical_onChannelNamed h (State.canonical_serveCredit h args))
  | sync =>
    exact everyNext_next.2 (State.canonical_serve h fun _ =>
      State.canonical_onChannelNamed h (State.canonical_serveSync h))
  | alertSet => exact everyNext_next.2 (State.canonical_serve h (State.canonical_serveAlertSet h))
  | alertClear =>
    exact everyNext_next.2 (State.canonical_serve h (State.canonical_serveAlertClear h))
  | snapshot => exact everyNext_next.2 (State.canonical_serve h (State.canonical_serveSnapshot h))
  | _ => exact hother (by simp [changedParts]) (by simp [changedParts]) (by simp [changedParts])

/-! ## The curve banks -/

theorem State.slotAccess_curves (s : State) (bank : Bank) (n : Nat) (w : Wear) :
    (s.slotAccess bank n w).curves = s.curves.setSlot bank n ((s.curves.slot bank n).tested w) := by
  unfold State.slotAccess
  dsimp only
  split
  · rfl
  · rfl
  · split <;> rfl

theorem State.reply_curves (s : State) (result : ResultCode) (content : List Octet) :
    (s.reply result content).curves = s.curves := s.reply_leaves result content .curves (by decide)

section Curves

variable {P : CurveStore → Prop} {s : State}

/-- A property of the curves that every slot access keeps is kept by the slot test of a swap. -/
theorem State.testSlots_curves (hP : ∀ c bank n w, P c → P (c.setSlot bank n ((c.slot bank n).tested w)))
    (h : P s.curves) (bank : Bank) (slots : List Nat) (wear : List Wear) : P (s.testSlots bank slots wear).1.curves := by
  induction slots generalizing s wear with
  | nil => exact h
  | cons slot slots ih =>
    have hread : P (s.slotAccess bank slot (wear.headD .steady)).curves := by
      rw [State.slotAccess_curves]
      exact hP _ _ _ _ h
    unfold State.testSlots
    dsimp only
    split
    · split
      · exact hread
      · split
        · exact ih hread _
        · exact hread
    · exact ih h _

/-- A property of the curves that every slot access keeps is kept by every command but a device reset, the exchange of
the banks, and CURVE LOAD. -/
theorem exec_keeps_curves (hP : ∀ c bank n w, P c → P (c.setSlot bank n ((c.slot bank n).tested w))) (c : Instr)
    (hreset : ∀ station speed, c ≠ .deviceReset station speed) (hexchange : c ≠ .bankExchange) (hload : c ≠ .curveLoad)
    (h : P s.curves) : EveryNext (fun t => P t.curves) (exec c s) := by
  have hother (hc : .curves ∉ changedParts c) : EveryNext (fun t => P t.curves) (exec c s) := fun t ht => by
    show P t.curves
    rw [show t.curves = s.curves from exec_agrees ht hc]
    exact h
  have hread (bank : Bank) (n : Nat) (w : Wear) : P (s.slotAccess bank n w).curves := by
    rw [State.slotAccess_curves]
    exact hP _ _ _ _ h
  have hreply {t : State} (ht : P t.curves) (result : ResultCode) (content : List Octet) :
      P (t.reply result content).curves := by rwa [State.reply_curves]
  cases c with
  | deviceReset station speed => exact absurd rfl (hreset station speed)
  | bankExchange => exact absurd rfl hexchange
  | curveLoad => exact absurd rfl hload
  | fillComputation wear =>
    dsimp only [exec, execFillComputation]
    split
    · split
      · exact everyNext_next.2 h
      · split
        · split
          · exact everyNext_next.2 (hread _ _ _)
          · exact everyNext_next.2 (hread _ _ _)
        · exact everyNext_fault
    · exact everyNext_next.2 h
  | curveRead wear =>
    refine everyNext_next.2 (State.serve_induction (P := fun t => P t.curves) h (hreply h _ _) fun r _ => ?_)
    unfold State.serveCurveRead
    dsimp only
    split
    · exact hreply h _ _
    · split
      · exact hreply h _ _
      · split <;> exact hreply (hread _ _ _) _ _
  | curveSwap wear =>
    refine everyNext_next.2 (State.serve_induction (P := fun t => P t.curves) h (hreply h _ _) fun r _ =>
      State.unlessLocked_induction (P := fun t => P t.curves) (hreply h _ _) fun _ => ?_)
    have htested := State.testSlots_curves hP h s.curves.active.other (List.range 32) wear
    unfold State.serveCurveSwap
    dsimp only
    split
    · have hlock := State.lockAndReply_leaves (s.testSlots s.curves.active.other (List.range 32) wear).1
      rwa [show State.curves (State.lockAndReply _ _ _) = _ from hlock _ _ .curves (by decide)]
    · exact htested
  | lengthOctetError link octet => cases link <;> exact hother (by simp [changedParts, linkParts])
  | _ => exact hother (by simp [changedParts, linkParts, accessParts])

end Curves

/-- Both banks are canonical. -/
def CurveStore.Canonical (c : CurveStore) : Prop :=
  Table.wf Slot.absent c.bankA = true ∧ Table.wf Slot.absent c.bankB = true

theorem CurveStore.Canonical.setSlot {c : CurveStore} (h : c.Canonical) (bank : Bank) (n : Nat) (v : Slot) :
    (c.setSlot bank n v).Canonical := by
  cases bank with
  | a => exact ⟨Table.wf_set _ _ _ h.1, h.2⟩
  | b => exact ⟨h.1, Table.wf_set _ _ _ h.2⟩

theorem exec_keeps_curvesCanonical (c : Instr) {s : State} (h : s.curves.Canonical) :
    EveryNext (fun t => t.curves.Canonical) (exec c s) := by
  have hreply {t : State} (ht : t.curves.Canonical) (result : ResultCode) (content : List Octet) :
      (t.reply result content).curves.Canonical := by rwa [State.reply_curves]
  cases c with
  | deviceReset => exact everyNext_next.2 ⟨rfl, rfl⟩
  | bankExchange =>
    dsimp only [exec, execBankExchange]
    split
    · refine everyNext_next.2 (hreply ?_ _ _)
      exact h
    · exact everyNext_next.2 h
  | curveLoad =>
    refine everyNext_next.2 (State.serve_induction (P := fun t => t.curves.Canonical) h (hreply h _ _) fun r _ =>
      State.unlessLocked_induction (P := fun t => t.curves.Canonical) (hreply h _ _) fun _ => ?_)
    unfold State.serveCurveLoad
    dsimp only
    split
    · exact hreply (h.setSlot _ _ _) _ _
    · exact hreply h _ _
  | _ =>
    exact exec_keeps_curves (fun _ bank n _ hc => hc.setSlot bank n _) _ (by simp) (by simp) (by simp) h

/-! ## The lane activity octets -/

section Activity

variable {s : State}

/-- The store of the lane activity octets is canonical. -/
def State.activityCanonical (s : State) : Prop := Table.wf 0 s.field.activity = true

theorem State.activityCanonical_offerSensor (h : s.activityCanonical) (r : Reading) :
    (s.offerSensor r).activityCanonical := by
  unfold State.offerSensor
  split
  · exact h
  · split
    · exact h
    · dsimp only
      split <;> exact Table.wf_set _ _ _ h

theorem State.activityCanonical_offerFieldEgress (h : s.activityCanonical) (payload : List Octet) :
    (s.offerFieldEgress payload).activityCanonical := by
  unfold State.offerFieldEgress
  split <;> exact h

theorem State.activityCanonical_judgeFrame (h : s.activityCanonical) (l : Link) (f : Frame) :
    (s.judgeFrame l f).activityCanonical := by
  cases l with
  | field =>
    show (s.judgeField f).activityCanonical
    unfold State.judgeField State.offerPassThrough
    split
    · split
      · exact State.activityCanonical_offerSensor h _
      · exact h
    · split
      · split <;> exact h
      · exact h
  | trunk =>
    have hfield := s.judgeTrunk_leaves f .field (by decide)
    unfold State.activityCanonical
    rwa [show (s.judgeFrame .trunk f).field = s.field from hfield]

theorem State.activityCanonical_foldl_arrive (h : s.activityCanonical) (l : Link) (octets : List LineOctet) :
    (octets.foldl (State.arrive l) s).activityCanonical :=
  State.foldl_arrive_induction (P := State.activityCanonical) (fun t rx h => by cases l <;> exact h)
    (fun _ f h => State.activityCanonical_judgeFrame h l f) (fun _ h => h) (fun _ h => h) octets h

theorem exec_keeps_activityCanonical (c : Instr) (h : s.activityCanonical) :
    EveryNext State.activityCanonical (exec c s) := by
  have hother (hc : .field ∉ changedParts c) : EveryNext State.activityCanonical (exec c s) := fun t ht => by
    unfold State.activityCanonical
    rwa [show t.field = s.field from exec_agrees ht hc]
  cases c with
  | deviceReset => exact everyNext_next.2 (rfl : Table.wf 0 [] = true)
  | fldRxFrame octets => exact everyNext_next.2 (State.activityCanonical_foldl_arrive h _ octets)
  | lengthOctetError link octet =>
    dsimp only [exec, execLengthOctetError]
    split
    · exact everyNext_next.2 (State.activityCanonical_foldl_arrive h link [octet])
    · exact everyNext_next.2 h
  | trunkIngressRoute =>
    dsimp only [exec, execTrunkIngressRoute]
    split
    · exact everyNext_next.2 h
    · unfold State.routeTrunk State.refuse
      split
      · refine everyNext_next.2 (State.activityCanonical_offerFieldEgress ?_ _)
        exact h
      · split
        · exact everyNext_next.2 h
        · split <;> exact everyNext_next.2 h
  | fieldEgressSend =>
    dsimp only [exec, execFieldEgressSend]
    split <;> exact everyNext_next.2 h
  | testIntervalExpiry =>
    dsimp only [exec, execTestIntervalExpiry]
    split
    · refine everyNext_next.2 (State.activityCanonical_offerSensor ?_ _)
      exact h
    · exact everyNext_next.2 h
  | copy =>
    dsimp only [exec, execCopy]
    split
    · exact everyNext_next.2 h
    · split <;> exact everyNext_next.2 h
  | handOver =>
    dsimp only [exec, execHandOver]
    split
    · exact everyNext_next.2 h
    · split <;> exact everyNext_next.2 h
  | _ => exact hother (by simp [changedParts, linkParts, accessParts])

end Activity

/-! ## Bins and held segments -/

/-- What the table-wide clear makes of a bin (R25). -/
def Bin.cleared (now : Nat) (b : Bin) : Bin := { b with fill := b.fill.cleared now }

/-- A property that the writes of a command's accesses keep, and that the table-wide clear keeps, is kept by every
command but a device reset. -/
theorem exec_keeps_bins_of {P : Table Bin → Prop} {R : Nat → Bin → Bin → Prop} (c : Instr) {s : State}
    (hreset : ∀ station speed, c ≠ .deviceReset station speed)
    (htraffic : accessesBins c = true → EveryNext (s.traffic R) (exec c s))
    (hwrite : ∀ n b bins, P bins → R n (Table.get Bin.reset n bins) b → P (Table.set Bin.reset n b bins))
    (hclear : P (Table.mapEntries Bin.reset (Bin.cleared s.now) s.table.bins)) (h : P s.table.bins) :
    EveryNext (fun t => P t.table.bins) (exec c s) := by
  have hkept {bins : Table Bin} {r : Reporting} (ht : Traffic R s.table.bins s.report bins r) : P bins := by
    induction ht with
    | start => exact h
    | conditions _ _ _ ih => exact ih
    | write _ n b _ _ hR ih => exact hwrite n b _ ih hR
    | notice _ _ _ _ ih => exact ih
  have hother (hc : .bins ∉ changedParts c) : EveryNext (fun t => P t.table.bins) (exec c s) := fun t ht => by
    show P t.table.bins
    rw [show t.table.bins = s.table.bins from exec_agrees ht hc]
    exact h
  cases c with
  | deviceReset station speed => exact absurd rfl (hreset station speed)
  | recordFetch | runWrite | application | writeBack | visit | staleWrite | loadGrant | convertedRead | binReadAccess
  | binScan => exact fun t ht => hkept (htraffic rfl t ht)
  | tableWideClear =>
    dsimp only [exec, execTableWideClear]
    split
    · exact everyNext_next.2 hclear
    · exact everyNext_next.2 h
  | restartCarriedOut =>
    dsimp only [exec, execRestartCarriedOut]
    split
    · exact everyNext_next.2 hclear
    · exact everyNext_next.2 h
    · exact everyNext_next.2 h
  | lengthOctetError link octet => cases link <;> exact hother (by simp [changedParts, linkParts])
  | _ => exact hother (by simp [changedParts, linkParts])

/-- A property that every write of a bin keeps, and the table-wide clear, is kept by every command but a device reset. -/
theorem exec_keeps_bins {P : Table Bin → Prop} (c : Instr) {s : State}
    (hreset : ∀ station speed, c ≠ .deviceReset station speed)
    (hwrite : ∀ n b bins, P bins → s.binWritten n (Table.get Bin.reset n bins) b → P (Table.set Bin.reset n b bins))
    (hclear : P (Table.mapEntries Bin.reset (Bin.cleared s.now) s.table.bins)) (h : P s.table.bins) :
    EveryNext (fun t => P t.table.bins) (exec c s) :=
  exec_keeps_bins_of c hreset (exec_traffic s) hwrite hclear h

theorem exec_keeps_binsCanonical (c : Instr) {s : State} (h : Table.wf Bin.reset s.table.bins = true) :
    EveryNext (fun t => Table.wf Bin.reset t.table.bins = true) (exec c s) := by
  by_cases hreset : ∃ station speed, c = .deviceReset station speed
  · obtain ⟨station, speed, rfl⟩ := hreset
    exact everyNext_next.2 (rfl : Table.wf Bin.reset [] = true)
  · exact exec_keeps_bins (P := fun bins => Table.wf Bin.reset bins = true) c
      (fun station speed e => hreset ⟨station, speed, e⟩) (fun n b bins hb _ => Table.wf_set _ _ _ hb)
      (Table.wf_mapEntries _ _ ((Table.wf_iff _ _).1 h).1) h

section Held

variable {s : State}

/-- The held segments stand in rising order. -/
def State.heldRising (s : State) : Prop := Table.rising none s.table.held = true

theorem State.heldRising_takeHoldExpiry (h : s.heldRising) (segment : Nat) : (s.takeHoldExpiry segment).heldRising := by
  unfold State.takeHoldExpiry
  split
  · exact Table.rising_erase _ h
  · exact h

theorem State.heldRising_overdueEvents (h : s.heldRising) : s.overdueEvents.heldRising := by
  have hholds (segments : List Nat) : (segments.foldl (fun t segment => t.takeHoldExpiry segment) s).heldRising :=
    List.foldlRecOn _ _ h fun _ h segment _ => State.heldRising_takeHoldExpiry h segment
  have hlater (t : State) (ht : t.heldRising) : t.takeAutoExpiry.takeBoundary.takeHoldoffEnd.heldRising := by
    unfold State.heldRising
    rw [(State.takeHoldoffEnd_leaves _ .segments (by decide)).2, (State.takeBoundary_leaves _ .segments (by decide)).2,
      (State.takeAutoExpiry_leaves _ .segments (by decide)).2]
    exact ht
  exact hlater _ (hholds _)

theorem exec_keeps_heldRising (c : Instr) (h : s.heldRising) : EveryNext State.heldRising (exec c s) := by
  have hother (hc : .segments ∉ changedParts c) : EveryNext State.heldRising (exec c s) := fun t ht => by
    unfold State.heldRising
    rw [(show _ ∧ t.table.held = s.table.held from exec_agrees ht hc).2]
    exact h
  have hreply {t : State} (ht : t.heldRising) (result : ResultCode) (content : List Octet) :
      (t.reply result content).heldRising := by
    unfold State.heldRising
    rw [(t.reply_leaves result content .segments (by decide)).2]
    exact ht
  cases c with
  | deviceReset => exact everyNext_next.2 (rfl : Table.rising none [] = true)
  | partTimeTick =>
    have hevents := State.heldRising_overdueEvents h
    dsimp only [exec, execPartTimeTick]
    generalize s.overdueEvents = u at hevents
    exact everyNext_next.2 (Table.rising_map (fun e => e.2 - 1) hevents)
  | holdTimerExpiry segment => exact everyNext_next.2 (State.heldRising_takeHoldExpiry h segment)
  | tableWideClear =>
    dsimp only [exec, execTableWideClear]
    split
    · exact everyNext_next.2 (rfl : Table.rising none [] = true)
    · exact everyNext_next.2 h
  | restartCarriedOut =>
    dsimp only [exec, execRestartCarriedOut]
    split
    · exact everyNext_next.2 (rfl : Table.rising none [] = true)
    · exact everyNext_next.2 h
    · exact everyNext_next.2 h
  | protect =>
    exact everyNext_next.2 (State.serve_induction (P := State.heldRising) h (hreply h _ _) fun r _ =>
      State.unlessLocked_induction (P := State.heldRising) (hreply h _ _) fun _ =>
        hreply (t := { s with table := { s.table with protectedSegments := argSegments r.args } }) h _ _)
  | hold =>
    exact everyNext_next.2 (State.serve_induction (P := State.heldRising) h (hreply h _ _) fun r _ =>
      hreply (t := { s with table := s.table.hold s.mgmt.params.holdLimit (argSegments r.args) })
        (BinTable.rising_hold _ _ h) _ _)
  | release =>
    refine everyNext_next.2 (State.serve_induction (P := State.heldRising) h (hreply h _ _) fun r _ => ?_)
    unfold State.serveRelease
    dsimp only
    split
    · exact hreply h _ _
    · split
      · exact hreply (t := { s with table := s.table.release (fieldAt 0 1 r.args) }) (Table.rising_erase _ h) _ _
      · exact hreply h _ _
  | lengthOctetError link octet => cases link <;> exact hother (by simp [changedParts, linkParts])
  | _ => exact hother (by simp [changedParts, linkParts, accessParts])

end Held

/-- Settles O5: each store is kept canonical by every command. -/
theorem stepKeepsStoresCanonical : Obligations.StepKeepsStoresCanonical := by
  intro s t
  refine step_keeps (P := State.storesCanonical) (fun _ _ h => h) fun c s t h hexec => ?_
  obtain ⟨hbins, hbankA, hbankB, hzones, hchannels, hcounters, hactivity, hheld⟩ := h
  have hreport := exec_keeps_reportCanonical c hbins ⟨hzones, hchannels, hcounters⟩ t hexec
  obtain ⟨hbankA', hbankB'⟩ := exec_keeps_curvesCanonical c ⟨hbankA, hbankB⟩ t hexec
  exact ⟨exec_keeps_binsCanonical c hbins t hexec, hbankA', hbankB', hreport.zones, hreport.channels, hreport.counters,
    exec_keeps_activityCanonical c hactivity t hexec, exec_keeps_heldRising c hheld t hexec⟩

end Sys2Proof.Machine

/-! The Management Unit: one request at a time, and a locked unit out of table-changing requests (R143, R146). -/

namespace Sys2Proof.Machine

/-! ## What serving makes of the Management Unit -/

/-- A stage that no load waits in and no swap is scanning in. -/
def Stage.calm (stage : Stage) : Prop := stage.loading = none ∧ stage.scanned = none

/-- The commands that may leave a load waiting or a swap scanning. -/
def stirsStage : Instr → Prop
  | .binLoad => True
  | .curveSwap _ => True
  | .binScan _ => True
  | _ => False

/-- What the command `c` makes of the unit: the request queue and Part Time stay, a sound unit stays sound, and the
stage stays or is calm, unless the command is one of those that may stir it. -/
structure ManagementUnit.Follows (c : Instr) (m m' : ManagementUnit) : Prop where
  queue : m'.queue = m.queue
  partTime : m'.partTime = m.partTime
  stage : m'.stage = m.stage ∨ m'.stage.calm ∨ stirsStage c
  sound : m.sound → m'.sound

theorem ManagementUnit.Follows.refl {c : Instr} (m : ManagementUnit) : m.Follows c m := ⟨rfl, rfl, .inl rfl, id⟩

theorem ManagementUnit.Follows.of_eq {c : Instr} {m m' : ManagementUnit} (h : m' = m) : m.Follows c m' := by
  rw [h]
  exact .refl m

/-- What a reply placed in the slot makes of the unit (R143, R147). -/
def ManagementUnit.replied (r : Request) (result : ResultCode) (content : List Octet) (m : ManagementUnit) :
    ManagementUnit :=
  { m with
    reply := some { destination := r.source, tag := r.tag, kind := r.kind, result := result, content := content }
    stage := .idle, older := m.newer, newer := historyOf r.kind }

theorem State.reply_mgmt_cases (s : State) (result : ResultCode) (content : List Octet) :
    (s.mgmt.queue = [] ∧ (s.reply result content).mgmt = s.mgmt)
      ∨ ∃ r rest, s.mgmt.queue = r :: rest ∧ (s.reply result content).mgmt = s.mgmt.replied r result content := by
  unfold State.reply
  split
  · next h => exact .inl ⟨h, rfl⟩
  · next r rest h => exact .inr ⟨r, rest, h, rfl⟩

theorem ManagementUnit.replied_sound {m : ManagementUnit} (h : m.queue ≠ []) (r : Request) (result : ResultCode)
    (content : List Octet) : (m.replied r result content).sound :=
  ⟨.inr rfl, nofun, fun _ => ⟨h, .inl rfl⟩, nofun⟩

section Serving

variable {c : Instr} {s u : State} {m : ManagementUnit}

theorem State.follows_reply (h : m.Follows c u.mgmt) (result : ResultCode) (content : List Octet) :
    m.Follows c (u.reply result content).mgmt := by
  rcases u.reply_mgmt_cases result content with ⟨_, e⟩ | ⟨r, rest, hq, e⟩
  · rwa [e]
  · rw [e]
    exact ⟨h.queue, h.partTime, .inr (.inl ⟨rfl, rfl⟩), fun _ => ManagementUnit.replied_sound (by simp [hq]) r result content⟩

/-- The unit locked and the request answered LOCKED. -/
theorem State.follows_lockAndReply (hqueue : m.sound → m.queue ≠ []) (h : u.mgmt = m) (reason : LockReason)
    (number : Nat) : m.Follows c (u.lockAndReply reason number).mgmt := by
  subst h
  have hcases := State.reply_mgmt_cases ((u.onMgmt fun m => { m with lock := some (reason, number) }).onReport fun r =>
    { r with conditions := r.conditions.lockRises }) .locked (lockOctets (some (reason, number)))
  unfold State.lockAndReply
  rcases hcases with ⟨hempty, e⟩ | ⟨r, rest, hq, e⟩
  · rw [e]
    exact ⟨rfl, rfl, .inl rfl, fun hsound => absurd hempty (hqueue hsound)⟩
  · rw [e]
    exact ⟨rfl, rfl, .inr (.inl ⟨rfl, rfl⟩), fun _ =>
      ManagementUnit.replied_sound (m := { u.mgmt with lock := _ }) (hq ▸ List.cons_ne_nil r rest) r _ _⟩

/-- The request at the head of the queue is taken into service. -/
theorem ManagementUnit.follows_stage {stage : Stage} {r : Request} (hidle : m.reply = none) (hq : m.queue.head? = some r)
    (hlock : m.lock = none ∨ stage.changesTables = false) (hreply : stage ≠ .restartReply) (hcalm : stage.calm ∨ stirsStage c) :
    m.Follows c { m with stage := stage } :=
  ⟨rfl, rfl, .inr hcalm, fun _ => ⟨hlock, fun _ => ⟨fun e : m.queue = [] => by simp [e] at hq, hidle⟩, fun h => absurd hidle h,
    fun h => absurd h hreply⟩⟩

/-- The lock, the parameters or the queue's other companions change, and the stage and the reply stay. -/
theorem ManagementUnit.follows_fields {m' : ManagementUnit} (hq : m'.queue = m.queue) (ht : m'.partTime = m.partTime)
    (hstage : m'.stage = m.stage) (hreply : m'.reply = m.reply) (hlock : m'.lock = m.lock ∨ m'.lock = none) :
    m.Follows c m' where
  queue := hq
  partTime := ht
  stage := .inl hstage
  sound := fun ⟨hlocked, hserving, hwaiting, hrestart⟩ => by
    refine ⟨?_, by rwa [hstage, hq, hreply], by rwa [hstage, hq, hreply], by rwa [hstage, hreply]⟩
    rcases hlock with e | e
    · rwa [e, hstage]
    · exact .inl e

theorem State.follows_serve {k : RequestKind} {bare : List Octet} {rule : List Octet → State → State}
    (hrule : ∀ r, s.offers k r → s.mgmt.Follows c (rule r.args s).mgmt) : s.mgmt.Follows c (s.serve k bare rule).mgmt :=
  State.serve_induction (P := fun t => s.mgmt.Follows c t.mgmt) (.refl _) (State.follows_reply (.refl _) _ _) hrule

theorem State.follows_unlessLocked {rule : State → State}
    (hrule : s.mgmt.lock = none → s.mgmt.Follows c (rule s).mgmt) : s.mgmt.Follows c (s.unlessLocked rule).mgmt :=
  State.unlessLocked_induction (P := fun t => s.mgmt.Follows c t.mgmt) (State.follows_reply (.refl _) _ _) hrule

theorem State.follows_onChannelNamed {args : List Octet} {rule : Nat → State → State}
    (hrule : ∀ n, s.mgmt.Follows c (rule n s).mgmt) : s.mgmt.Follows c (s.onChannelNamed args rule).mgmt :=
  State.onChannelNamed_induction (P := fun t => s.mgmt.Follows c t.mgmt) (State.follows_reply (.refl _) _ _)
    fun _ => hrule _

theorem ManagementUnit.queue_of_offers {k : RequestKind} {r : Request} (h : s.offers k r) : s.mgmt.queue ≠ [] :=
  fun e => by
    obtain ⟨-, -, hq, -, -⟩ := h
    simp [e] at hq

theorem State.follows_serveBinLoad {r : Request} (h : s.offers .binLoad r) (hlock : s.mgmt.lock = none) :
    s.mgmt.Follows .binLoad (s.serveBinLoad r.args).mgmt := by
  obtain ⟨-, hnone, hq, -, -⟩ := h
  have hbad := State.follows_reply (ManagementUnit.Follows.refl (c := .binLoad) s.mgmt) .badValue []
  unfold State.serveBinLoad
  dsimp only
  split
  · exact hbad
  · split
    · exact ManagementUnit.follows_stage hnone hq (.inl hlock) nofun (.inr trivial)
    · split
      · exact hbad
      · split
        · exact hbad
        · exact ManagementUnit.follows_stage hnone hq (.inl hlock) nofun (.inr trivial)

theorem State.follows_serveBinRead {r : Request} (h : s.offers .binRead r) :
    s.mgmt.Follows c (s.serveBinRead r.args).mgmt := by
  obtain ⟨-, hnone, hq, -, -⟩ := h
  unfold State.serveBinRead
  split
  · exact State.follows_reply (.refl _) _ _
  · exact ManagementUnit.follows_stage hnone hq (.inr rfl) nofun (.inl ⟨rfl, rfl⟩)

theorem State.follows_serveCurveRead (wear : Wear) (args : List Octet) :
    s.mgmt.Follows c (s.serveCurveRead wear args).mgmt := by
  have hread (bank : Bank) (n : Nat) : s.mgmt.Follows c (s.slotAccess bank n wear).mgmt :=
    .of_eq (s.slotAccess_leaves bank n wear .mgmt (by decide))
  unfold State.serveCurveRead
  dsimp only
  split
  · exact State.follows_reply (.refl _) _ _
  · split
    · exact State.follows_reply (.refl _) _ _
    · split <;> exact State.follows_reply (hread _ _) _ _

theorem State.follows_serveCurveSwap {r : Request} (h : s.offers .curveSwap r) (hlock : s.mgmt.lock = none)
    (wear : List Wear) : s.mgmt.Follows (.curveSwap wear) (s.serveCurveSwap wear).mgmt := by
  have hq := ManagementUnit.queue_of_offers h
  obtain ⟨-, hnone, hhead, -, -⟩ := h
  have htested : (s.testSlots s.curves.active.other (List.range 32) wear).1.mgmt = s.mgmt :=
    s.testSlots_leaves _ _ _ .mgmt (by decide)
  unfold State.serveCurveSwap
  dsimp only
  split
  · exact State.follows_lockAndReply (fun _ => hq) htested _ _
  · rw [State.onMgmt_mgmt, htested]
    exact ManagementUnit.follows_stage hnone hhead (.inl hlock) nofun (.inr trivial)

theorem State.follows_serveSweepStart {r : Request} (h : s.offers .sweepStart r) :
    s.mgmt.Follows c (s.serveSweepStart r.args).mgmt := by
  have hreply (result : ResultCode) : s.mgmt.Follows c (s.reply result []).mgmt := State.follows_reply (.refl _) _ _
  unfold State.serveSweepStart
  dsimp only
  split
  · exact hreply _
  · split
    · exact hreply _
    · split
      · exact hreply _
      · split
        · exact State.follows_reply (by exact .refl _) _ _
        · exact State.follows_lockAndReply (fun _ => ManagementUnit.queue_of_offers h) rfl _ _

theorem State.follows_serveSweepSuspend {r : Request} (h : s.offers .sweepSuspend r) :
    s.mgmt.Follows c s.serveSweepSuspend.mgmt := by
  obtain ⟨-, hnone, hq, -, -⟩ := h
  unfold State.serveSweepSuspend
  dsimp only
  split
  · split
    · exact State.follows_reply (by exact .refl _) _ _
    · exact ManagementUnit.follows_stage hnone hq (.inr rfl) nofun (.inl ⟨rfl, rfl⟩)
  · exact State.follows_reply (by exact .refl _) _ _

theorem State.follows_serveRestart {r : Request} (h : s.offers .restart r) : s.mgmt.Follows c s.serveRestart.mgmt := by
  have hq := ManagementUnit.queue_of_offers h
  unfold State.serveRestart
  rcases s.reply_mgmt_cases .done [] with ⟨hempty, _⟩ | ⟨r', rest, _, e⟩
  · exact absurd hempty hq
  · rw [State.onMgmt_mgmt, e]
    exact ⟨rfl, rfl, .inr (.inl ⟨rfl, rfl⟩), fun _ => ⟨.inr rfl, nofun, fun _ => ⟨hq, .inr rfl⟩, fun _ => nofun⟩⟩

theorem State.follows_serveParamSet (args : List Octet) : s.mgmt.Follows c (s.serveParamSet args).mgmt := by
  have hset : s.mgmt.Follows c (s.onMgmt fun m => { m with params := m.params.set args }).mgmt :=
    ManagementUnit.follows_fields rfl rfl rfl rfl (.inl rfl)
  unfold State.serveParamSet
  dsimp only
  refine State.follows_reply ?_ _ _
  split
  · exact hset
  · exact hset

theorem State.follows_endVisit (hqueue : u.mgmt = m) : m.Follows c u.endVisit.mgmt := by
  subst hqueue
  have hended (f : SweepEngine → SweepEngine) : (if u.sweep.cursor = u.sweep.last then
      ((u.count .sweepVisit 1).onSweep f).count .sweepEnd 1 else (u.count .sweepVisit 1).onSweep f).mgmt = u.mgmt := by
    split <;> rfl
  unfold State.endVisit
  dsimp only
  by_cases hsuspend : (u.mgmt.stage == .suspend) = true
  · rw [if_pos hsuspend]
    exact State.follows_reply (.of_eq (hended _)) _ _
  · rw [if_neg hsuspend]
    exact .of_eq (hended _)

theorem State.follows_judgeVisit (hqueue : u.mgmt = m) (b : Bin) : m.Follows c (u.judgeVisit b).mgmt := by
  unfold State.judgeVisit
  split
  · exact State.follows_endVisit hqueue
  · split
    · exact State.follows_endVisit hqueue
    · split
      · exact State.follows_endVisit hqueue
      · split
        · exact .of_eq hqueue
        · exact State.follows_endVisit hqueue

theorem State.granted_access_mgmt (s : State) (r : Requester) (kind : AccessKind) (test : Bool) (n : Nat) (w : Wear) :
    ((s.granted r).access kind test n w).mgmt = s.mgmt := s.granted_access_leaves r kind test n w .mgmt (by decide)

end Serving

/-! ## Command by command -/

/-- What every command but a device reset, the routing of a request, the grant of a reply, the tick and TIME SET makes of
the Management Unit. -/
theorem exec_mgmt_follows (c : Instr) (s : State) (hreset : ∀ station speed, c ≠ .deviceReset station speed)
    (hroute : c ≠ .trunkIngressRoute) (hreply : c ≠ .replySlotGrant) (htick : c ≠ .partTimeTick) (htime : c ≠ .timeSet) :
    EveryNext (fun t => s.mgmt.Follows c t.mgmt) (exec c s) := by
  have hother (hc : .mgmt ∉ changedParts c) : EveryNext (fun t => s.mgmt.Follows c t.mgmt) (exec c s) :=
    fun t ht => .of_eq (exec_agrees (p := .mgmt) ht hc)
  have hrefl := ManagementUnit.Follows.refl (c := c) s.mgmt
  cases c with
  | deviceReset station speed => exact absurd rfl (hreset station speed)
  | trunkIngressRoute => exact absurd rfl hroute
  | replySlotGrant => exact absurd rfl hreply
  | partTimeTick => exact absurd rfl htick
  | timeSet => exact absurd rfl htime
  | visit wear =>
    dsimp only [exec, execVisit]
    split
    · split
      · exact everyNext_next.2 (State.follows_endVisit (s.granted_access_mgmt _ _ _ _ _))
      · exact everyNext_next.2 (State.follows_judgeVisit (s.granted_access_mgmt _ _ _ _ _) _)
      · exact everyNext_next.2 (State.follows_judgeVisit (s.granted_access_mgmt _ _ _ _ _) _)
    · exact everyNext_next.2 hrefl
  | staleWrite wear =>
    have hmark (u : State) (hu : u.mgmt = s.mgmt) (record : BinRecord) (b : Bin) : (u.markStale record b).mgmt = s.mgmt :=
      (u.markStale_leaves record b .mgmt (by decide)).trans hu
    dsimp only [exec, execStaleWrite]
    split
    · split
      · split
        · exact everyNext_next.2 (State.follows_endVisit (hmark _ (s.granted_access_mgmt _ _ _ _ _) _ _))
        · exact everyNext_next.2 (State.follows_endVisit (s.granted_access_mgmt _ _ _ _ _))
      · exact everyNext_next.2 hrefl
    · exact everyNext_next.2 hrefl
  | loadGrant wear =>
    dsimp only [exec, execLoadGrant]
    split
    · split
      · next n record poison _ _ =>
        refine everyNext_next.2 ?_
        unfold State.load
        dsimp only
        refine State.follows_reply (.of_eq ?_) _ _
        rw [show State.mgmt (List.foldl _ _ _) = _ from State.foldl_notify_leaves _ _ _ _ _ _ _ .mgmt (by decide),
          State.postChange_mgmt, State.setBin_mgmt, State.granted_access_mgmt]
      · exact everyNext_next.2 hrefl
    · exact everyNext_next.2 hrefl
  | convertedRead wear =>
    dsimp only [exec, execConvertedRead]
    split
    · split
      · split <;> exact everyNext_next.2 (State.follows_reply (.of_eq (s.granted_access_mgmt _ _ _ _ _)) _ _)
      · exact everyNext_next.2 hrefl
    · exact everyNext_next.2 hrefl
  | binReadAccess wear =>
    have hfree (u : State) (hu : s.mgmt.Follows (.binReadAccess wear) u.mgmt) (n : Nat) :
        s.mgmt.Follows (.binReadAccess wear) (u.useFree n).mgmt := by
      rwa [show (u.useFree n).mgmt = u.mgmt from u.useFree_leaves n .mgmt (by decide)]
    dsimp only [exec, execBinReadAccess]
    split
    · split
      · split <;>
          exact everyNext_next.2 (hfree _ (State.follows_reply (.of_eq (s.granted_access_mgmt _ _ _ _ _)) _ _) _)
      · exact everyNext_next.2 hrefl
    · exact everyNext_next.2 hrefl
  | binScan wear =>
    dsimp only [exec, execBinScan]
    split
    · next n hstage =>
      split
      · split
        · refine everyNext_next.2 (State.follows_lockAndReply (fun hsound => ?_) (s.granted_access_mgmt _ _ _ _ _) _ _)
          exact (hsound.2.1 (by rw [hstage]; rfl)).1
        · refine everyNext_next.2 ?_
          unfold State.scanOn
          rw [State.onMgmt_mgmt, State.granted_access_mgmt]
          refine ⟨rfl, rfl, .inr (.inr trivial), fun ⟨hlock, hserving, _, _⟩ => ?_⟩
          rw [hstage] at hlock hserving
          obtain ⟨hq, hnone⟩ := hserving rfl
          refine ⟨.inl (hlock.resolve_right nofun), fun _ => ⟨hq, hnone⟩, fun h => absurd hnone h, ?_⟩
          dsimp only
          split <;> exact nofun
      · exact everyNext_next.2 hrefl
    · exact everyNext_next.2 hrefl
  | bankExchange =>
    dsimp only [exec, execBankExchange]
    split
    · refine everyNext_next.2 (State.follows_reply ?_ _ _)
      exact hrefl
    · exact everyNext_next.2 hrefl
  | tableWideClear =>
    dsimp only [exec, execTableWideClear]
    split
    · next hdue =>
      refine everyNext_next.2 ⟨rfl, rfl, .inr (.inl ⟨rfl, rfl⟩), fun ⟨_, _, hwaiting, _⟩ => ⟨.inr rfl, nofun, fun h => ?_, nofun⟩⟩
      rcases (hwaiting h).2 with e | e <;> simp [hdue] at e
    · exact everyNext_next.2 hrefl
  | restartCarriedOut =>
    have hrestarted (hstage : s.mgmt.stage ≠ .idle ∧ s.mgmt.stage ≠ .restartReply) :
        s.mgmt.Follows .restartCarriedOut { s.mgmt with lock := none, stage := .idle } :=
      ⟨rfl, rfl, .inr (.inl ⟨rfl, rfl⟩), fun ⟨_, _, hwaiting, _⟩ => ⟨.inl rfl, nofun,
        fun h => absurd (hwaiting h).2 (not_or.2 hstage), nofun⟩⟩
    dsimp only [exec, execRestartCarriedOut]
    split
    · next hdue => exact everyNext_next.2 (hrestarted (by simp [hdue]))
    · next hcleared => exact everyNext_next.2 (hrestarted (by simp [hcleared]))
    · exact everyNext_next.2 hrefl
  | unknownRequest =>
    dsimp only [exec, execUnknownRequest]
    split
    · exact everyNext_next.2 hrefl
    · split
      · exact everyNext_next.2 hrefl
      · exact everyNext_next.2 (State.follows_reply (by exact hrefl) _ _)
  | info | paramRead | sweepRead | alertRead =>
    exact everyNext_next.2 (State.follows_serve fun _ _ => State.follows_reply (by exact hrefl) _ _)
  | paramSet => exact everyNext_next.2 (State.follows_serve fun r _ => State.follows_serveParamSet r.args)
  | binLoad =>
    exact everyNext_next.2 (State.follows_serve fun _ h =>
      State.follows_unlessLocked fun hlock => State.follows_serveBinLoad h hlock)
  | binRead => exact everyNext_next.2 (State.follows_serve fun _ h => State.follows_serveBinRead h)
  | curveLoad =>
    refine everyNext_next.2 (State.follows_serve fun r _ => State.follows_unlessLocked fun _ => ?_)
    unfold State.serveCurveLoad
    dsimp only
    split
    · refine State.follows_reply ?_ _ _
      exact hrefl
    · exact State.follows_reply (by exact hrefl) _ _
  | curveRead wear => exact everyNext_next.2 (State.follows_serve fun r _ => State.follows_serveCurveRead wear r.args)
  | curveSwap wear =>
    exact everyNext_next.2 (State.follows_serve fun _ h =>
      State.follows_unlessLocked fun hlock => State.follows_serveCurveSwap h hlock wear)
  | zoneRead =>
    refine everyNext_next.2 (State.follows_serve fun r _ => ?_)
    unfold State.serveZoneRead
    dsimp only
    split <;> exact State.follows_reply (by exact hrefl) _ _
  | protect =>
    refine everyNext_next.2 (State.follows_serve fun r _ => State.follows_unlessLocked fun _ =>
      State.follows_reply (u := { s with table := _ }) ?_ _ _)
    exact hrefl
  | hold =>
    refine everyNext_next.2 (State.follows_serve fun r _ => State.follows_reply (u := { s with table := _ }) ?_ _ _)
    exact hrefl
  | release =>
    refine everyNext_next.2 (State.follows_serve fun r _ => ?_)
    unfold State.serveRelease
    dsimp only
    split
    · exact State.follows_reply (by exact hrefl) _ _
    · split
      · exact State.follows_reply (by exact hrefl) _ _
      · exact State.follows_reply (by exact hrefl) _ _
  | sweepStart =>
    exact everyNext_next.2 (State.follows_serve fun _ h =>
      State.follows_unlessLocked fun _ => State.follows_serveSweepStart h)
  | sweepSuspend => exact everyNext_next.2 (State.follows_serve fun _ h => State.follows_serveSweepSuspend h)
  | sweepResume =>
    refine everyNext_next.2 (State.follows_serve fun r _ => ?_)
    unfold State.serveSweepResume
    split <;> exact State.follows_reply (by exact hrefl) _ _
  | stop =>
    refine everyNext_next.2 (State.follows_serve fun r _ => State.follows_reply ?_ _ _)
    exact ManagementUnit.follows_fields rfl rfl rfl rfl (.inr rfl)
  | clear =>
    refine everyNext_next.2 (State.follows_serve fun r _ => State.follows_reply ?_ _ _)
    exact ManagementUnit.follows_fields rfl rfl rfl rfl (.inr rfl)
  | channelSet =>
    refine everyNext_next.2 (State.follows_serve fun r _ => State.follows_onChannelNamed fun n => ?_)
    unfold State.serveChannelSet
    split <;> exact State.follows_reply (by exact hrefl) _ _
  | channelClose | channelRead =>
    exact everyNext_next.2 (State.follows_serve fun r _ => State.follows_onChannelNamed fun n =>
      State.follows_reply (by exact hrefl) _ _)
  | credit =>
    refine everyNext_next.2 (State.follows_serve fun r _ => State.follows_onChannelNamed fun n => ?_)
    unfold State.serveCredit
    dsimp only
    split <;> exact State.follows_reply (by exact hrefl) _ _
  | sync =>
    refine everyNext_next.2 (State.follows_serve fun r _ => State.follows_onChannelNamed fun n => ?_)
    unfold State.serveSync
    dsimp only
    split
    · exact State.follows_reply (by exact hrefl) _ _
    · exact State.follows_reply (by exact hrefl) _ _
  | alertSet =>
    refine everyNext_next.2 (State.follows_serve fun r _ => ?_)
    unfold State.serveAlertSet
    split <;> exact State.follows_reply (by exact hrefl) _ _
  | alertClear => exact everyNext_next.2 (State.follows_serve fun r _ => State.follows_reply (by exact hrefl) _ _)
  | snapshot =>
    refine everyNext_next.2 (State.follows_serve fun r _ => ?_)
    unfold State.serveSnapshot
    split <;> exact State.follows_reply (by exact hrefl) _ _
  | statsRead =>
    refine everyNext_next.2 (State.follows_serve fun r _ => ?_)
    unfold State.serveStatsRead
    dsimp only
    split <;> exact State.follows_reply (by exact hrefl) _ _
  | testStart =>
    refine everyNext_next.2 (State.follows_serve fun r _ => ?_)
    unfold State.serveTestStart
    split
    · exact State.follows_reply (by exact hrefl) _ _
    · split
      · exact State.follows_reply (by exact hrefl) _ _
      · split <;> exact State.follows_reply (by exact hrefl) _ _
  | testStop =>
    refine everyNext_next.2 (State.follows_serve fun r _ => ?_)
    unfold State.serveTestStop
    split <;> exact State.follows_reply (by exact hrefl) _ _
  | testRead =>
    refine everyNext_next.2 (State.follows_serve fun r _ => State.follows_reply ?_ _ _)
    rw [State.onTest_mgmt]
    split <;> exact hrefl
  | restart => exact everyNext_next.2 (State.follows_serve fun _ h => State.follows_serveRestart h)
  | lengthOctetError link octet => cases link <;> exact hother (by simp [changedParts, linkParts])
  | _ => exact hother (by simp [changedParts, linkParts, accessParts])

/-! ## The commands that turn the request queue or Part Time -/

theorem execTrunkIngressRoute_mgmt (s : State) :
    EveryNext (fun t => t.mgmt = s.mgmt ∨ s.mgmt.queue.length < Config.requestRoom
      ∧ ∃ r, t.mgmt = { s.mgmt with queue := s.mgmt.queue ++ [r] }) (execTrunkIngressRoute s) := by
  unfold execTrunkIngressRoute
  split
  · exact everyNext_next.2 (.inl rfl)
  · refine everyNext_next.2 ?_
    unfold State.routeTrunk
    split
    · exact .inl (State.offerFieldEgress_leaves _ _ .mgmt (by decide))
    · split
      · next hroom => exact .inr ⟨hroom, _, rfl⟩
      · exact .inl (State.refuse_leaves _ _ .mgmt (by decide))

/-- The reply granted: its request leaves the queue (R143). -/
def ManagementUnit.replyGranted (m : ManagementUnit) : ManagementUnit :=
  { m with reply := none, queue := m.queue.tail, stage := m.stage.afterReply }

theorem execReplySlotGrant_mgmt (s : State) :
    EveryNext (fun t => t.mgmt = s.mgmt ∨ s.mgmt.reply ≠ none ∧ t.mgmt = s.mgmt.replyGranted) (execReplySlotGrant s) := by
  unfold execReplySlotGrant
  split
  · next hreply => exact everyNext_next.2 (.inr ⟨by simp [hreply], rfl⟩)
  · exact everyNext_next.2 (.inl rfl)

theorem execPartTimeTick_mgmt (s : State) :
    EveryNext (fun t => t.mgmt = { s.mgmt with partTime := t.mgmt.partTime }) (execPartTimeTick s) := by
  have hevents : s.overdueEvents.mgmt = s.mgmt := s.overdueEvents_leaves .mgmt (by decide)
  unfold execPartTimeTick
  generalize s.overdueEvents = u at hevents
  rw [everyNext_next, ← hevents]
  rfl

theorem execTimeSet_mgmt (s : State) :
    EveryNext (fun t => t.mgmt.queue = s.mgmt.queue ∧ (t.mgmt.stage = s.mgmt.stage ∨ t.mgmt.stage.calm)
      ∧ (s.mgmt.sound → t.mgmt.sound)) (execTimeSet s) := by
  refine everyNext_next.2 (State.serve_induction (P := fun t => t.mgmt.queue = s.mgmt.queue
    ∧ (t.mgmt.stage = s.mgmt.stage ∨ t.mgmt.stage.calm) ∧ (s.mgmt.sound → t.mgmt.sound)) ⟨rfl, .inl rfl, id⟩ ?_ fun r _ => ?_)
  · obtain ⟨hq, -, hstage, hsound⟩ := State.follows_reply (c := .timeSet) (.refl s.mgmt) .badRequest []
    exact ⟨hq, hstage.imp_right (·.resolve_right id), hsound⟩
  · obtain ⟨hq, -, hstage, hsound⟩ := State.follows_reply (c := .timeSet)
      (.refl (ManagementUnit.mk s.mgmt.queue s.mgmt.reply s.mgmt.stage s.mgmt.lock s.mgmt.newer s.mgmt.older
        (fieldAt 0 4 r.args) s.mgmt.params s.mgmt.station s.mgmt.speed))
      (u := ({ s with filter := { entries := [], retiring := none } }).onMgmt fun m =>
        { m with partTime := fieldAt 0 4 r.args }) .done (beOctets 4 s.now ++ beOctets 4 (fieldAt 0 4 r.args))
    exact ⟨hq, hstage.imp_right (·.resolve_right id), hsound⟩

theorem ManagementUnit.sound_routed {m : ManagementUnit} (h : m.sound) (r : Request) :
    ManagementUnit.sound { m with queue := m.queue ++ [r] } := by
  obtain ⟨hlock, hserving, hwaiting, hrestart⟩ := h
  exact ⟨hlock, fun hs => ⟨by simp, (hserving hs).2⟩, fun hr => ⟨by simp, (hwaiting hr).2⟩, hrestart⟩

theorem ManagementUnit.sound_replyGranted {m : ManagementUnit} (h : m.sound) (hreply : m.reply ≠ none) :
    m.replyGranted.sound := by
  obtain ⟨-, -, hwaiting, -⟩ := h
  have hafter : m.stage.afterReply = .idle ∨ m.stage.afterReply = .restartDue := by
    rcases (hwaiting hreply).2 with e | e <;> simp [e, Stage.afterReply]
  have hchanges : m.stage.afterReply.changesTables = false ∧ m.stage.afterReply.serving = false
      ∧ m.stage.afterReply ≠ .restartReply := by
    rcases hafter with e | e <;> simp [e, Stage.changesTables, Stage.serving]
  exact ⟨.inr hchanges.1, fun hs => Bool.noConfusion (hchanges.2.1.symm.trans hs), fun hr => absurd rfl hr,
    fun hs => absurd hs hchanges.2.2⟩

/-- Every command keeps the Management Unit sound. -/
theorem exec_keeps_mgmtSound (c : Instr) {s : State} (h : s.mgmt.sound) :
    EveryNext (fun t => t.mgmt.sound) (exec c s) := by
  by_cases hreset : ∃ station speed, c = .deviceReset station speed
  · obtain ⟨station, speed, rfl⟩ := hreset
    exact everyNext_next.2 ⟨.inl rfl, nofun, fun h => absurd rfl h, nofun⟩
  by_cases hroute : c = .trunkIngressRoute
  · subst hroute
    intro t ht
    rcases execTrunkIngressRoute_mgmt s t ht with e | ⟨-, r, e⟩
    · rwa [e]
    · rw [e]
      exact ManagementUnit.sound_routed h r
  by_cases hreply : c = .replySlotGrant
  · subst hreply
    intro t ht
    rcases execReplySlotGrant_mgmt s t ht with e | ⟨hwaiting, e⟩
    · rwa [e]
    · rw [e]
      exact ManagementUnit.sound_replyGranted h hwaiting
  by_cases htick : c = .partTimeTick
  · subst htick
    intro t ht
    rw [execPartTimeTick_mgmt s t ht]
    exact h
  by_cases htime : c = .timeSet
  · subst htime
    exact fun t ht => (execTimeSet_mgmt s t ht).2.2 h
  exact fun t ht => (exec_mgmt_follows c s (fun a b e => hreset ⟨a, b, e⟩) hroute hreply htick htime t ht).sound h

theorem Stage.afterReply_calm (stage : Stage) : stage.afterReply = stage ∨ stage.afterReply.calm := by
  cases stage with
  | restartReply => exact .inr ⟨rfl, rfl⟩
  | _ => exact .inl rfl

/-- A command that does not stir the stage leaves it, or calms it. -/
theorem exec_stage_calms {c : Instr} (hc : ¬ stirsStage c) (s : State) :
    EveryNext (fun t => t.mgmt.stage = s.mgmt.stage ∨ t.mgmt.stage.calm) (exec c s) := by
  by_cases hreset : ∃ station speed, c = .deviceReset station speed
  · obtain ⟨station, speed, rfl⟩ := hreset
    exact everyNext_next.2 (.inr ⟨rfl, rfl⟩)
  by_cases hroute : c = .trunkIngressRoute
  · subst hroute
    intro t ht
    rcases execTrunkIngressRoute_mgmt s t ht with e | ⟨-, r, e⟩ <;> exact .inl (by rw [e])
  by_cases hreply : c = .replySlotGrant
  · subst hreply
    intro t ht
    rcases execReplySlotGrant_mgmt s t ht with e | ⟨-, e⟩
    · exact .inl (by rw [e])
    · rw [e]
      exact s.mgmt.stage.afterReply_calm
  by_cases htick : c = .partTimeTick
  · subst htick
    exact fun t ht => .inl (by rw [execPartTimeTick_mgmt s t ht])
  by_cases htime : c = .timeSet
  · subst htime
    exact fun t ht => (execTimeSet_mgmt s t ht).2.1
  exact fun t ht =>
    (exec_mgmt_follows c s (fun a b e => hreset ⟨a, b, e⟩) hroute hreply htick htime t ht).stage.imp_right
      (·.resolve_right hc)

/-- Settles O11: every command keeps the Management Unit sound. -/
theorem stepKeepsManagementSound : Obligations.StepKeepsManagementSound := fun _ _ hs h =>
  step_keeps (P := fun s => s.mgmt.sound) (fun _ _ h => h) (fun c _ t hs => exec_keeps_mgmtSound c hs t) hs h

end Sys2Proof.Machine

/-! The FIFOs, queues and lists: each within its room, no two Recent Arrivals entries of one transmission, and every
parked reading held or released (R15, R16, R39, R135, R137, R139, R143). -/

namespace Sys2Proof.Machine

/-! ## The links -/

/-- The FIFOs and queues of the two links hold no more than their room. -/
structure State.LinksRoomy (s : State) : Prop where
  fieldIngress : s.field.ingress.length ≤ 32
  fieldEgress : s.field.egress.length ≤ 16
  trunkIngress : s.trunk.ingress.length ≤ 16
  passThrough : s.trunk.passThrough.length ≤ 16

section Links

variable {s t : State}

theorem State.LinksRoomy.of_eq (h : s.LinksRoomy) (hf : t.field = s.field) (ht : t.trunk = s.trunk) : t.LinksRoomy :=
  ⟨hf ▸ h.1, hf ▸ h.2, ht ▸ h.3, ht ▸ h.4⟩

theorem State.LinksRoomy.setReceiver (h : s.LinksRoomy) (l : Link) (rx : Receiver) : (s.setReceiver l rx).LinksRoomy := by
  cases l with
  | field => exact ⟨h.1, h.2, h.3, h.4⟩
  | trunk => exact ⟨h.1, h.2, h.3, h.4⟩

theorem State.LinksRoomy.offerSensor (h : s.LinksRoomy) (r : Reading) : (s.offerSensor r).LinksRoomy := by
  unfold State.offerSensor
  split
  · exact h.of_eq rfl rfl
  · split
    · exact h.of_eq rfl rfl
    · next hroom =>
      have hjoins : (s.field.ingress ++ [r]).length ≤ 32 := by simp [Config.fieldIngressRoom] at hroom ⊢; omega
      dsimp only
      split
      · exact ⟨hjoins, h.2, h.3, h.4⟩
      · exact ⟨hjoins, h.2, h.3, h.4⟩

theorem State.LinksRoomy.offerPassThrough (h : s.LinksRoomy) (payload : List Octet) :
    (s.offerPassThrough payload).LinksRoomy := by
  unfold State.offerPassThrough
  split
  · exact h.of_eq rfl rfl
  · next hroom => exact ⟨h.1, h.2, h.3, by simp [Config.foreignRoom] at hroom ⊢; omega⟩

theorem State.LinksRoomy.offerFieldEgress (h : s.LinksRoomy) (payload : List Octet) :
    (s.offerFieldEgress payload).LinksRoomy := by
  unfold State.offerFieldEgress
  split
  · exact h.of_eq rfl rfl
  · next hroom => exact ⟨h.1, by simp [Config.foreignRoom] at hroom ⊢; omega, h.3, h.4⟩

theorem State.LinksRoomy.offerTrunk (h : s.LinksRoomy) (f : TrunkFrame) : (s.offerTrunk f).LinksRoomy := by
  unfold State.offerTrunk
  split
  · exact h.of_eq rfl rfl
  · next hroom => exact ⟨h.1, h.2, by simp [Config.trunkIngressRoom] at hroom ⊢; omega, h.4⟩

theorem State.LinksRoomy.judgeFrame (h : s.LinksRoomy) (l : Link) (f : Frame) : (s.judgeFrame l f).LinksRoomy := by
  have hbad : (s.malformed l).LinksRoomy := h.of_eq rfl rfl
  cases l with
  | field =>
    dsimp only [State.judgeFrame, State.judgeField]
    split
    · split
      · exact h.offerSensor _
      · exact hbad
    · split
      · exact h.offerPassThrough _
      · exact hbad
  | trunk =>
    dsimp only [State.judgeFrame, State.judgeTrunk]
    split
    · exact h.offerTrunk _
    · split
      · split
        · exact hbad
        · split
          · exact h.offerTrunk _
          · exact h.of_eq rfl rfl
      · exact hbad

theorem State.LinksRoomy.arrive (h : s.LinksRoomy) (l : Link) (octets : List LineOctet) :
    (octets.foldl (State.arrive l) s).LinksRoomy :=
  State.foldl_arrive_induction (fun _ rx h => h.setReceiver l rx) (fun _ f h => h.judgeFrame l f)
    (fun _ h => h.of_eq rfl rfl) (fun _ h => h.of_eq rfl rfl) octets h

theorem State.LinksRoomy.routeTrunk (h : s.LinksRoomy) (f : TrunkFrame) : (s.routeTrunk f).LinksRoomy := by
  unfold State.routeTrunk
  split
  · exact h.offerFieldEgress _
  · split
    · exact h.of_eq rfl rfl
    · unfold State.refuse
      split
      · exact h.of_eq rfl rfl
      · exact ⟨h.1, h.2, h.3, h.4⟩

/-- Every command keeps the FIFOs and queues of the links within their room. -/
theorem exec_keeps_linksRoomy (c : Instr) (h : s.LinksRoomy) : EveryNext State.LinksRoomy (exec c s) := by
  have hother (hf : .field ∉ changedParts c) (ht : .trunk ∉ changedParts c) : EveryNext State.LinksRoomy (exec c s) :=
    fun t hexec => h.of_eq (exec_agrees (p := .field) hexec hf) (exec_agrees (p := .trunk) hexec ht)
  cases c with
  | deviceReset => exact everyNext_next.2 ⟨Nat.zero_le _, Nat.zero_le _, Nat.zero_le _, Nat.zero_le _⟩
  | fldRxFrame octets => exact everyNext_next.2 (h.arrive .field octets)
  | trkRxFrame octets => exact everyNext_next.2 (h.arrive .trunk octets)
  | lengthOctetError link octet =>
    dsimp only [exec, execLengthOctetError]
    split
    · exact everyNext_next.2 (h.arrive link [octet])
    · exact everyNext_next.2 h
  | trunkIngressRoute =>
    dsimp only [exec, execTrunkIngressRoute]
    split
    · exact everyNext_next.2 h
    · next f rest hq =>
      have hrest : rest.length ≤ 16 := by have := h.3; simp [hq] at this; omega
      exact everyNext_next.2 (State.LinksRoomy.routeTrunk (s := { s with trunk := { s.trunk with ingress := rest } })
        ⟨h.1, h.2, hrest, h.4⟩ f)
  | fieldEgressSend =>
    dsimp only [exec, execFieldEgressSend]
    split
    · exact everyNext_next.2 h
    · next payload rest hq =>
      refine everyNext_next.2 ⟨h.1, ?_, h.3, h.4⟩
      have := h.2
      simp [hq, State.sendField] at this ⊢
      omega
  | passThroughGrant =>
    dsimp only [exec, execPassThroughGrant]
    split
    · next payload rest _ hq =>
      refine everyNext_next.2 ⟨h.1, h.2, h.3, ?_⟩
      have := h.4
      simp [hq, State.sendTrunk, State.grantedClass] at this ⊢
      omega
    · exact everyNext_next.2 h
  | refusalSlotGrant =>
    dsimp only [exec, execRefusalSlotGrant]
    split
    · exact everyNext_next.2 ⟨h.1, h.2, h.3, h.4⟩
    · exact everyNext_next.2 h
  | replySlotGrant =>
    dsimp only [exec, execReplySlotGrant]
    split
    · exact everyNext_next.2 ⟨h.1, h.2, h.3, h.4⟩
    · exact everyNext_next.2 h
  | conditionNoticeGrant =>
    dsimp only [exec, execConditionNoticeGrant]
    split
    · exact everyNext_next.2 ⟨h.1, h.2, h.3, h.4⟩
    · exact everyNext_next.2 h
  | creditOutNotice =>
    dsimp only [exec, execCreditOutNotice]
    split
    · split
      · exact everyNext_next.2 ⟨h.1, h.2, h.3, h.4⟩
      · exact everyNext_next.2 h
    · exact everyNext_next.2 h
  | reportFrame =>
    dsimp only [exec, execReportFrame]
    split
    · split
      · exact everyNext_next.2 h
      · exact everyNext_next.2 ⟨h.1, h.2, h.3, h.4⟩
    · exact everyNext_next.2 h
  | testIntervalExpiry =>
    dsimp only [exec, execTestIntervalExpiry]
    split
    · exact everyNext_next.2 (State.LinksRoomy.offerSensor (s := s.onTest _) (h.of_eq rfl rfl) _)
    · exact everyNext_next.2 h
  | copy =>
    dsimp only [exec, execCopy]
    split
    · exact everyNext_next.2 h
    · next r rest hq =>
      have hrest : rest.length ≤ 32 := by have := h.1; simp [hq] at this; omega
      split
      · exact everyNext_next.2 ⟨hrest, h.2, h.3, h.4⟩
      · exact everyNext_next.2 h
  | handOver =>
    dsimp only [exec, execHandOver]
    split
    · exact everyNext_next.2 h
    · next r rest hq =>
      have hrest : rest.length ≤ 32 := by have := h.1; simp [hq] at this; omega
      split
      · exact everyNext_next.2 ⟨hrest, h.2, h.3, h.4⟩
      · exact everyNext_next.2 h
  | _ => exact hother (by simp [changedParts, accessParts]) (by simp [changedParts, accessParts])

end Links

/-! ## The request queue -/

/-- Every command keeps the request queue within its room. -/
theorem exec_keeps_queueRoomy (c : Instr) {s : State} (h : s.mgmt.queue.length ≤ 4) :
    EveryNext (fun t => t.mgmt.queue.length ≤ 4) (exec c s) := by
  by_cases hreset : ∃ station speed, c = .deviceReset station speed
  · obtain ⟨station, speed, rfl⟩ := hreset
    exact everyNext_next.2 (Nat.zero_le _)
  by_cases hroute : c = .trunkIngressRoute
  · subst hroute
    intro t ht
    rcases execTrunkIngressRoute_mgmt s t ht with e | ⟨hroom, r, e⟩
    · rwa [e]
    · simp only [e, List.length_append, List.length_singleton]
      exact hroom
  by_cases hreply : c = .replySlotGrant
  · subst hreply
    intro t ht
    rcases execReplySlotGrant_mgmt s t ht with e | ⟨-, e⟩
    · rwa [e]
    · rw [e, ManagementUnit.replyGranted, List.length_tail]
      omega
  by_cases htick : c = .partTimeTick
  · subst htick
    intro t ht
    rwa [execPartTimeTick_mgmt s t ht]
  by_cases htime : c = .timeSet
  · subst htime
    exact fun t ht => Nat.le_trans (Nat.le_of_eq (congrArg List.length (execTimeSet_mgmt s t ht).1)) h
  exact fun t ht => Nat.le_trans (Nat.le_of_eq (congrArg List.length
    (exec_mgmt_follows c s (fun a b e => hreset ⟨a, b, e⟩) hroute hreply htick htime t ht).queue)) h

/-! ## The Recent Arrivals list -/

/-- What an entry is known by (R39). -/
def Arrival.key (e : Arrival) : Nat × Nat := (e.bin, e.sequence)

/-- The list holds no more than its room, and no two entries of one transmission. -/
structure ArrivalFilter.Distinct (f : ArrivalFilter) : Prop where
  room : f.entries.length ≤ 256
  nodup : (f.entries.map Arrival.key).Nodup

section Filter

variable {f : ArrivalFilter} {s : State}

theorem ArrivalFilter.distinct_empty (retiring : Option Retirement) : ArrivalFilter.Distinct ⟨[], retiring⟩ :=
  ⟨Nat.zero_le _, List.nodup_nil⟩

theorem ArrivalFilter.Distinct.map (h : f.Distinct) {g : Arrival → Arrival} (hg : ∀ e, (g e).key = e.key) :
    ArrivalFilter.Distinct { f with entries := f.entries.map g } where
  room := by simpa using h.room
  nodup := by
    rw [List.map_map, List.map_congr_left (f := Arrival.key ∘ g) (g := Arrival.key) fun e _ => hg e]
    exact h.nodup

theorem ArrivalFilter.Distinct.sublist (h : f.Distinct) {entries : List Arrival} (hsub : entries.Sublist f.entries)
    (retiring : Option Retirement) : ArrivalFilter.Distinct ⟨entries, retiring⟩ :=
  ⟨Nat.le_trans hsub.length_le h.room, h.nodup.sublist (hsub.map _)⟩

theorem ArrivalFilter.Distinct.dropHead (h : f.Distinct) : f.dropHead.Distinct :=
  h.sublist (List.tail_sublist _) none

theorem ArrivalFilter.Distinct.retireHead (h : f.Distinct) (why : Retirement) : (f.retireHead why).Distinct := by
  unfold ArrivalFilter.retireHead
  split
  · exact h
  · next e rest hentries =>
    split
    · exact h.sublist (by rw [hentries]; exact List.sublist_cons_self e rest) f.retiring
    · exact h.sublist (hentries ▸ List.Sublist.refl _) (some why)

theorem ArrivalFilter.Distinct.markApplied (h : f.Distinct) (t : Taken) (generation : Nat) :
    (f.markApplied t generation).Distinct := by
  unfold ArrivalFilter.markApplied
  split
  · exact h
  · exact h.map fun e => by split <;> rfl

theorem ArrivalFilter.Distinct.append (h : f.Distinct) (hroom : f.entries.length < 256) {r : Reading}
    (hnew : f.knows r = false) (now : Nat) :
    ArrivalFilter.Distinct { f with entries := f.entries ++ [newArrival now r] } where
  room := Nat.le_trans (Nat.le_of_eq List.length_append) hroom
  nodup := by
    rw [List.map_append]
    refine List.nodup_append.2 ⟨h.nodup, List.pairwise_singleton _ _, fun key hkey other hother hsame => ?_⟩
    obtain ⟨e, he, rfl⟩ := List.mem_map.1 hkey
    obtain rfl : other = (newArrival now r).key := List.mem_singleton.1 hother
    obtain ⟨hbin, hsequence⟩ : e.bin = r.bin ∧ e.sequence = r.sequence := Prod.mk.inj hsame
    have hknown : f.knows r = true := List.any_eq_true.2 ⟨e, he, by simp [Arrival.isOf, hbin, hsequence]⟩
    exact Bool.noConfusion (hnew.symm.trans hknown)

/-- Every command keeps the Recent Arrivals list within its room and its entries distinct. -/
theorem exec_keeps_distinct (c : Instr) (h : s.filter.Distinct) : EveryNext (fun t => t.filter.Distinct) (exec c s) := by
  have hother (hc : .filter ∉ changedParts c) : EveryNext (fun t => t.filter.Distinct) (exec c s) := fun t ht => by
    have heq : t.filter = s.filter := exec_agrees (p := .filter) ht hc
    exact (congrArg ArrivalFilter.Distinct heq).mpr h
  have hgranted (r : Requester) (k : AccessKind) (test : Bool) (n : Nat) (w : Wear) :
      ((s.granted r).access k test n w).filter = s.filter := s.granted_access_leaves r k test n w .filter (by decide)
  cases c with
  | deviceReset => exact everyNext_next.2 (ArrivalFilter.distinct_empty none)
  | partTimeTick =>
    have hevents : s.overdueEvents.filter = s.filter := s.overdueEvents_leaves .filter (by decide)
    dsimp only [exec, execPartTimeTick]
    generalize s.overdueEvents = u at hevents
    rw [← hevents] at h
    exact everyNext_next.2 (h.map fun e => rfl)
  | entryDue =>
    dsimp only [exec, execEntryDue]
    split
    · exact everyNext_next.2 h
    · split
      · exact everyNext_next.2 (h.retireHead _)
      · exact everyNext_next.2 h
  | copy =>
    dsimp only [exec, execCopy]
    split
    · exact everyNext_next.2 h
    · split
      · exact everyNext_next.2 (h.map fun e => by split <;> rfl)
      · exact everyNext_next.2 h
  | handOver =>
    dsimp only [exec, execHandOver]
    split
    · exact everyNext_next.2 h
    · next r rest _ =>
      split
      · next hready =>
        simp only [Bool.and_eq_true, Bool.not_eq_true', decide_eq_true_eq] at hready
        obtain ⟨⟨⟨hnew, -⟩, -⟩, hroom⟩ := hready
        exact everyNext_next.2 (h.append hroom hnew _)
      · exact everyNext_next.2 h
  | eviction =>
    dsimp only [exec, execEviction]
    split
    · exact everyNext_next.2 h
    · split
      · exact everyNext_next.2 (h.retireHead _)
      · exact everyNext_next.2 h
  | application wear =>
    dsimp only [exec, execApplication]
    split
    · next a result _ =>
      split
      · split
        · exact everyNext_next.2 (by rw [State.dropReading_filter, hgranted]; exact h)
        · split
          · exact everyNext_next.2 (by rw [State.dropReading_filter, hgranted]; exact h)
          · refine everyNext_next.2 ?_
            unfold State.makeApplication
            dsimp only
            rw [State.readerTo_filter,
              show State.filter (List.foldl _ _ _) = _ from State.foldl_notify_leaves _ _ _ _ _ _ _ .filter (by decide),
              State.postChange_filter,
              show State.filter (State.countApplied _ _ _) = _ from State.countApplied_leaves _ _ _ .filter (by decide),
              State.onFilter_filter, State.setBin_filter, hgranted]
            exact h.markApplied _ _
      · exact everyNext_next.2 h
    · exact everyNext_next.2 h
  | writeBack wear =>
    dsimp only [exec, execWriteBack]
    split
    · split
      · split
        · exact everyNext_next.2 (by
            rw [State.count_filter, State.onFilter_filter, State.setBin_filter, hgranted]
            exact h.dropHead)
        · exact everyNext_next.2 (by
            rw [State.count_filter, State.onFilter_filter, hgranted]
            exact h.dropHead)
      · exact everyNext_next.2 h
    · exact everyNext_next.2 h
  | tableWideClear =>
    dsimp only [exec, execTableWideClear]
    split
    · exact everyNext_next.2 (ArrivalFilter.distinct_empty none)
    · exact everyNext_next.2 h
  | restartCarriedOut =>
    dsimp only [exec, execRestartCarriedOut]
    split
    · exact everyNext_next.2 (ArrivalFilter.distinct_empty none)
    · exact everyNext_next.2 (ArrivalFilter.distinct_empty none)
    · exact everyNext_next.2 h
  | timeSet =>
    refine everyNext_next.2 (State.serve_induction (P := fun t => t.filter.Distinct) h ?_ fun r _ => ?_)
    · rw [show (s.reply .badRequest []).filter = s.filter from s.reply_leaves _ _ .filter (by decide)]
      exact h
    · unfold State.serveTimeSet
      dsimp only
      rw [show State.filter (State.reply _ _ _) = _ from State.reply_leaves _ _ _ .filter (by decide), State.onMgmt_filter]
      exact ArrivalFilter.distinct_empty none
  | lengthOctetError link octet => cases link <;> exact hother (by simp [changedParts, linkParts])
  | _ => exact hother (by simp [changedParts, linkParts, accessParts])

end Filter

/-! ## The Park List -/

/-- The list holds no more than its room, and every entry belongs to a held segment or is marked released (R16). -/
structure BinTable.ParkSound (t : BinTable) : Prop where
  room : t.park.length ≤ 32
  kept : ∀ p ∈ t.park, p.released = true ∨ Table.has (segmentOf p.reading.bin) t.held = true

section Park

variable {t : BinTable} {s : State}

theorem Table.has_erase_other {α : Type} {key other : Nat} (h : other ≠ key) (t : Table α) :
    Table.has other (Table.erase key t) = Table.has other t := by
  unfold Table.has Table.erase
  rw [List.any_filter]
  congr 1
  funext e
  by_cases he : e.1 = other
  · simp [he, h]
  · simp [he]

theorem BinTable.ParkSound.of_eq {u : BinTable} (h : t.ParkSound) (hp : u.park = t.park) (hh : u.held = t.held) :
    u.ParkSound := ⟨hp ▸ h.1, hp ▸ hh ▸ h.2⟩

theorem BinTable.ParkSound.release (h : t.ParkSound) (segment : Nat) : (t.release segment).ParkSound where
  room := by simpa [BinTable.release] using h.room
  kept := by
    simp only [BinTable.release, List.mem_map]
    rintro _ ⟨p, hp, rfl⟩
    split
    · exact .inl rfl
    · next hsegment => rw [Table.has_erase_other hsegment]; exact h.kept p hp

theorem BinTable.ParkSound.hold (h : t.ParkSound) (limit : Nat) (segments : BitVec 32) :
    (t.hold limit segments).ParkSound where
  room := h.room
  kept := fun p hp => (h.kept p hp).imp_right fun hheld => by rw [BinTable.has_hold, hheld, Bool.or_true]

theorem BinTable.ParkSound.parked (h : t.ParkSound) (hroom : t.park.length < 32) (now : Nat) {taken : Taken}
    (hheld : Table.has (segmentOf taken.reading.bin) t.held = true) : (t.parked now taken).ParkSound where
  room := Nat.le_trans (Nat.le_of_eq List.length_append) hroom
  kept := by
    simp only [BinTable.parked, List.mem_append, List.mem_singleton]
    rintro p (hp | rfl)
    · exact h.kept p hp
    · exact .inr hheld

theorem BinTable.ParkSound.counted (h : t.ParkSound) :
    BinTable.ParkSound { t with held := t.held.map fun e => (e.1, e.2 - 1) } where
  room := h.room
  kept := fun p hp => (h.kept p hp).imp_right fun hheld => by
    simpa [Table.has, Function.comp_def] using hheld

/-- The released entry taken and the rest are the list's entries. -/
theorem takeReleased_sublist {park rest : List Parked} {p : Parked} (h : takeReleased park = some (p, rest)) :
    rest.Sublist park := by
  induction park generalizing p rest with
  | nil => cases h
  | cons q park ih =>
    unfold takeReleased at h
    split at h
    · obtain ⟨-, rfl⟩ := Prod.mk.inj (Option.some.inj h)
      exact List.sublist_cons_self _ _
    · obtain ⟨⟨p', rest'⟩, htake, he⟩ := Option.map_eq_some_iff.1 h
      obtain ⟨-, rfl⟩ := Prod.mk.inj he
      exact (ih htake).cons_cons _

theorem State.parkSound_takeHoldExpiry (h : s.table.ParkSound) (segment : Nat) :
    (s.takeHoldExpiry segment).table.ParkSound := by
  unfold State.takeHoldExpiry
  split
  · exact h.release segment
  · exact h

theorem State.parkSound_leaves {u : State} {L : List Part} (h : s.table.ParkSound) (hleaves : s.leavesBut L u)
    (hL : .park ∉ L ∧ .segments ∉ L) : u.table.ParkSound :=
  h.of_eq (hleaves .park hL.1) (hleaves .segments hL.2).2

theorem State.parkSound_overdueEvents (h : s.table.ParkSound) : s.overdueEvents.table.ParkSound := by
  have hholds (segments : List Nat) : (segments.foldl (fun t segment => t.takeHoldExpiry segment) s).table.ParkSound :=
    List.foldlRecOn (motive := fun u : State => u.table.ParkSound) _ _ h fun _ h segment _ => State.parkSound_takeHoldExpiry h segment
  have hlater (u : State) (hu : u.table.ParkSound) : u.takeAutoExpiry.takeBoundary.takeHoldoffEnd.table.ParkSound :=
    State.parkSound_leaves (State.parkSound_leaves (State.parkSound_leaves hu (State.takeAutoExpiry_leaves u) (by decide))
      (State.takeBoundary_leaves _) (by decide)) (State.takeHoldoffEnd_leaves _) (by decide)
  exact hlater _ (hholds _)

theorem State.parkSound_checkReading (h : s.table.ParkSound) (taken : Taken) (b : Bin) :
    (s.checkReading taken b).table.ParkSound := by
  unfold State.checkReading
  split
  · exact h
  · split
    · exact h
    · split
      · exact h
      · split
        · exact h
        · split
          · next hheld =>
            unfold State.park
            split
            · next hroom => exact h.parked hroom _ hheld
            · exact h
          · unfold State.checkSequence
            split <;> exact h

/-- Every command keeps the Park List within its room and its entries held or released. -/
theorem exec_keeps_parkSound (c : Instr) (h : s.table.ParkSound) :
    EveryNext (fun t => t.table.ParkSound) (exec c s) := by
  have hother (hp : .park ∉ changedParts c) (hs : .segments ∉ changedParts c) :
      EveryNext (fun t => t.table.ParkSound) (exec c s) := fun t ht => State.parkSound_leaves h (exec_leaves s c t ht) ⟨hp, hs⟩
  have hreply {u : State} (hu : u.table.ParkSound) (result : ResultCode) (content : List Octet) :
      (u.reply result content).table.ParkSound := State.parkSound_leaves hu (u.reply_leaves result content) (by decide)
  have hempty (bins : Table Bin) (segments : BitVec 32) (last : Requester) :
      BinTable.ParkSound ⟨bins, segments, [], [], last⟩ := ⟨Nat.zero_le _, nofun⟩
  cases c with
  | deviceReset => exact everyNext_next.2 (hempty _ _ _)
  | partTimeTick =>
    have hevents := State.parkSound_overdueEvents h
    dsimp only [exec, execPartTimeTick]
    generalize s.overdueEvents = u at hevents
    exact everyNext_next.2 hevents.counted
  | holdTimerExpiry segment => exact everyNext_next.2 (State.parkSound_takeHoldExpiry h segment)
  | takeReleasedEntry =>
    dsimp only [exec, execTakeReleasedEntry]
    split
    · exact everyNext_next.2 h
    · next p rest htake =>
      have hsub := takeReleased_sublist htake
      split
      · exact everyNext_next.2 ⟨Nat.le_trans hsub.length_le h.room, fun q hq => h.kept q (hsub.subset hq)⟩
      · exact everyNext_next.2 h
  | recordFetch wear =>
    have hread (test : Bool) (n : Nat) : ((s.granted .readingUnit).access .read test n wear).table.ParkSound :=
      State.parkSound_leaves h (s.granted_access_leaves .readingUnit .read test n wear) (by decide)
    dsimp only [exec, execRecordFetch]
    split
    · split
      · split
        · exact everyNext_next.2 (hread _ _)
        · exact everyNext_next.2 (State.parkSound_checkReading (hread _ _) _ _)
        · exact everyNext_next.2 (State.parkSound_checkReading (hread _ _) _ _)
      · exact everyNext_next.2 h
    · exact everyNext_next.2 h
  | tableWideClear =>
    dsimp only [exec, execTableWideClear]
    split
    · exact everyNext_next.2 (hempty _ _ _)
    · exact everyNext_next.2 h
  | restartCarriedOut =>
    dsimp only [exec, execRestartCarriedOut]
    split
    · exact everyNext_next.2 (hempty _ _ _)
    · exact everyNext_next.2 h
    · exact everyNext_next.2 h
  | protect =>
    exact everyNext_next.2 (State.serve_induction (P := fun t => t.table.ParkSound) h (hreply h _ _) fun r _ =>
      State.unlessLocked_induction (P := fun t => t.table.ParkSound) (hreply h _ _) fun _ =>
        hreply (u := { s with table := { s.table with protectedSegments := argSegments r.args } }) (h.of_eq rfl rfl) _ _)
  | hold =>
    exact everyNext_next.2 (State.serve_induction (P := fun t => t.table.ParkSound) h (hreply h _ _) fun r _ =>
      hreply (u := { s with table := s.table.hold s.mgmt.params.holdLimit (argSegments r.args) }) (h.hold _ _) _ _)
  | release =>
    refine everyNext_next.2 (State.serve_induction (P := fun t => t.table.ParkSound) h (hreply h _ _) fun r _ => ?_)
    unfold State.serveRelease
    dsimp only
    split
    · exact hreply h _ _
    · split
      · exact hreply (u := { s with table := s.table.release (fieldAt 0 1 r.args) }) (h.release _) _ _
      · exact hreply h _ _
  | lengthOctetError link octet =>
    cases link <;> exact hother (by simp [changedParts, linkParts]) (by simp [changedParts, linkParts])
  | _ => exact hother (by simp [changedParts, linkParts, accessParts]) (by simp [changedParts, linkParts, accessParts])

end Park

/-- Settles O6: each list is kept sound by every command. -/
theorem stepKeepsListsSound : Obligations.StepKeepsListsSound := by
  intro s t
  refine step_keeps (P := State.listsSound) (fun _ _ h => h) fun c s t h hexec => ?_
  obtain ⟨hfield, hegress, htrunk, hpass, hqueue, hentries, hpark, hnodup, hkept⟩ := h
  obtain ⟨hfield', hegress', htrunk', hpass'⟩ := exec_keeps_linksRoomy c ⟨hfield, hegress, htrunk, hpass⟩ t hexec
  obtain ⟨hentries', hnodup'⟩ := exec_keeps_distinct c ⟨hentries, hnodup⟩ t hexec
  obtain ⟨hpark', hkept'⟩ := exec_keeps_parkSound c ⟨hpark, hkept⟩ t hexec
  exact ⟨hfield', hegress', htrunk', hpass', exec_keeps_queueRoomy c hqueue t hexec, hentries', hpark', hnodup', hkept'⟩

end Sys2Proof.Machine

/-! Every Planner Channel sound, kept by every step (R100, R101, R105, R108, R109). -/

namespace Sys2Proof.Machine

/-! ## One channel -/

/-- A channel that is not CLOSED, before it is settled: all that a sound channel has, but that it may be exhausted. -/
structure Channel.Live (c : Channel) : Prop where
  room : c.queue.length ≤ 64
  nodup : c.queuedZones.Nodup
  apart : ∀ z ∈ c.queuedZones, Bits.has z c.owed = false
  full : c.owed ≠ 0 → c.queue.length = 64
  credit : c.credit ≤ 255
  lost : c.lost ≤ 65535
  live : c.state ≠ .closed
  starved : c.state = .starved → c.credit = 0 ∧ 0 < c.eligible
  prompt : c.mode = .prompt → ∀ e ∈ c.queue, e.due = false
  dueFirst : c.queue.Pairwise fun e f => f.due = true → e.due = true

section Channel

variable {c : Channel}

theorem Channel.sound_reset : Channel.reset.sound := by
  refine ⟨Nat.zero_le _, List.nodup_nil, fun _ hz => absurd hz List.not_mem_nil, fun h => absurd rfl h, Nat.zero_le _, Nat.zero_le _,
    fun _ => ⟨rfl, rfl, rfl⟩, rfl, nofun, fun _ _ he => absurd he List.not_mem_nil, List.Pairwise.nil⟩

theorem Channel.live_of_sound (h : c.sound) (hlive : c.state ≠ .closed) : c.Live := by
  obtain ⟨hroom, hnodup, hapart, hfull, hcredit, hlost, -, -, hstarved, hprompt, hdue⟩ := h
  exact ⟨hroom, hnodup, hapart, hfull, hcredit, hlost, hlive, hstarved, hprompt, hdue⟩

theorem Channel.settled_of_sound (h : c.sound) (now n : Nat) : c.settled now n = c := by
  obtain ⟨-, -, -, -, -, -, -, hexhausted, -⟩ := h
  simp [Channel.settled, hexhausted]

theorem Channel.Live.sound_of_not_exhausted (h : c.Live) (hex : c.exhausted = false) : c.sound :=
  ⟨h.room, h.nodup, h.apart, h.full, h.credit, h.lost, fun e => absurd e h.live, hex, h.starved, h.prompt, h.dueFirst⟩

/-- A channel settled is sound (R109). -/
theorem Channel.Live.sound_settled (h : c.Live) (now n : Nat) : (c.settled now n).sound := by
  unfold Channel.settled
  split
  · next hex =>
    obtain ⟨-, heligible, hcredit⟩ := (Channel.exhausted_iff c).1 hex
    exact ⟨h.room, h.nodup, h.apart, h.full, h.credit, h.lost, nofun, rfl, fun _ => ⟨hcredit, heligible⟩, h.prompt,
      h.dueFirst⟩
  · next hex => exact h.sound_of_not_exhausted (Bool.eq_false_iff.2 hex)

theorem Channel.eligible_join_ge (item : Item) (c : Channel) : c.eligible ≤ (c.join item).eligible := by
  unfold Channel.eligible Channel.join
  dsimp only
  split <;> simp

/-- An entry joins a queue that has room; a summary is of a zone neither queued nor owed (R101, R102). -/
theorem Channel.Live.join (h : c.Live) (hroom : c.queue.length < 64) {item : Item}
    (hnew : ∀ z ∈ item.summaryZone, z ∉ c.queuedZones ∧ Bits.has z c.owed = false) : (c.join item).Live := by
  have hzones : (c.join item).queuedZones = c.queuedZones ++ item.summaryZone.toList := by
    cases hitem : item.summaryZone <;> simp [Channel.queuedZones, Channel.join, hitem]
  refine ⟨Nat.le_trans (Nat.le_of_eq List.length_append) hroom, ?nodup, ?apart, ?full, h.credit, h.lost, h.live, ?starved, ?prompt,
    ?dueFirst⟩
  case nodup =>
    rw [hzones]
    refine List.nodup_append.2 ⟨h.nodup, by cases item.summaryZone <;> simp, fun z hz zone hitem hsame => ?_⟩
    exact (hnew zone (Option.mem_toList.1 hitem)).1 (hsame ▸ hz)
  case apart =>
    rw [hzones]
    intro z hz
    rcases List.mem_append.1 hz with hz | hz
    · exact h.apart z hz
    · exact (hnew z (Option.mem_toList.1 hz)).2
  case full =>
    intro howed
    have := h.full howed
    omega
  case starved =>
    intro hstate
    obtain ⟨hcredit, heligible⟩ := h.starved hstate
    exact ⟨hcredit, Nat.lt_of_lt_of_le heligible (c.eligible_join_ge item)⟩
  case prompt =>
    intro hmode e he
    rcases List.mem_append.1 he with he | he
    · exact h.prompt hmode e he
    · rw [List.mem_singleton.1 he]
  case dueFirst =>
    refine List.pairwise_append.2 ⟨h.dueFirst, List.pairwise_singleton _ _, fun e _ f hf hdue => ?_⟩
    rw [List.mem_singleton.1 hf] at hdue
    exact Bool.noConfusion hdue

theorem Channel.mem_queuedZones (zone : Nat) (c : Channel) : zone ∈ c.queuedZones ↔ c.hasSummary zone = true := by
  rw [Channel.queuedZones, List.mem_filterMap, Channel.hasSummary, List.any_eq_true]
  refine exists_congr fun e => and_congr_right fun _ => ?_
  cases e.item with
  | summary z => simp [Item.summaryZone]
  | notice x => simp [Item.summaryZone]

/-- The channel takes an offered zone (R102). -/
theorem Channel.Live.takeZone (h : c.Live) (zone : Nat) : (c.takeZone zone).Live := by
  have hcases : (c.takeZone zone = c)
      ∨ (¬ c.hasSummary zone = true ∧ ¬ Bits.has zone c.owed = true ∧ c.queue.length < 64
        ∧ c.takeZone zone = c.join (.summary zone))
      ∨ (¬ c.hasSummary zone = true ∧ ¬ c.queue.length < 64
        ∧ c.takeZone zone = { c with owed := Bits.put zone c.owed }) := by
    unfold Channel.takeZone Channel.judgeZone
    by_cases hsummary : c.hasSummary zone = true
    · simp [hsummary]
    · by_cases howed : Bits.has zone c.owed = true
      · simp [hsummary, howed]
      · by_cases hroom : c.queue.length < 64
        · simp [hsummary, howed, hroom, Config.reportRoom]
        · simp [hsummary, howed, hroom, Config.reportRoom]
  rcases hcases with e | ⟨hsummary, howed, hroom, e⟩ | ⟨hsummary, hroom, e⟩
  · rwa [e]
  · rw [e]
    refine h.join hroom fun z hz => ?_
    obtain rfl : zone = z := Option.some.inj hz
    exact ⟨fun hq => hsummary ((c.mem_queuedZones zone).1 hq), Bool.eq_false_iff.2 howed⟩
  · rw [e]
    have hlength : c.queue.length = 64 := by have := h.room; omega
    refine ⟨h.room, h.nodup, fun z hz => ?_, fun _ => hlength, h.credit, h.lost, h.live, h.starved, h.prompt, h.dueFirst⟩
    have hne : z ≠ zone := fun e => hsummary ((c.mem_queuedZones zone).1 (e ▸ hz))
    change Bits.has z (Bits.put zone c.owed) = false
    rw [Bits.has_put, h.apart z hz]
    simp [hne]

theorem Channel.lose_sound (h : c.sound) : Channel.sound { c with lost := min (c.lost + 1) Config.lostMax } := by
  obtain ⟨hroom, hnodup, hapart, hfull, hcredit, -, hclosed, hexhausted, hstarved, hprompt, hdue⟩ := h
  exact ⟨hroom, hnodup, hapart, hfull, hcredit, Nat.min_le_right _ _, hclosed, hexhausted, hstarved, hprompt, hdue⟩

/-- A channel's own pace boundary, after which it is settled (R106). -/
theorem Channel.sound_boundary_settled (h : c.sound) (now n : Nat) : (c.boundary.settled now n).sound := by
  unfold Channel.boundary
  split
  · next hpaced =>
    obtain ⟨hmode, hlive⟩ := hpaced
    have hold := Channel.live_of_sound h hlive
    have hzones : Channel.queuedZones { c with queue := c.queue.map fun e => { e with due := true } } = c.queuedZones :=
      List.filterMap_map
    refine Channel.Live.sound_settled ?_ now n
    refine ⟨?_, by rw [hzones]; exact hold.nodup, by rw [hzones]; exact hold.apart, fun howed => ?_, hold.credit,
      hold.lost, hold.live, fun hstate => ?_, fun hprompt => ?_, ?_⟩
    · simpa using hold.room
    · simpa using hold.full howed
    · obtain ⟨hcredit, heligible⟩ := hold.starved hstate
      refine ⟨hcredit, Nat.lt_of_lt_of_le heligible (Nat.le_trans c.eligible_le_length (Nat.le_of_eq ?_))⟩
      have hall : (c.queue.map fun e => ({ e with due := true } : Entry)).filter (·.due)
          = c.queue.map fun e => { e with due := true } := List.filter_eq_self.2 (by simp)
      simp only [Channel.eligible, hmode, hall, List.length_map]
    · exact absurd (hmode.symm.trans hprompt) nofun
    · exact List.pairwise_map.2 (List.pairwise_of_forall fun _ _ _ => rfl)
  · rwa [Channel.settled_of_sound h]

/-- A configured channel is empty, and keeps its credit (R112). -/
theorem Channel.sound_configured (h : c.sound) (destination : Nat) (zones : BitVec 64) (mode : ChannelMode) :
    (c.configured destination zones mode).sound := by
  obtain ⟨-, -, -, -, hcredit, -⟩ := h
  have heligible : (c.configured destination zones mode).eligible = 0 := by
    cases mode <;> rfl
  refine ⟨Nat.zero_le _, List.nodup_nil, fun _ hz => absurd hz List.not_mem_nil, fun h => absurd rfl h, hcredit, Nat.zero_le _, nofun, ?_, nofun,
    fun _ _ he => absurd he List.not_mem_nil, List.Pairwise.nil⟩
  simp [Channel.exhausted, heligible]

/-- A channel shut is CLOSED, empty and without credit (R113). -/
theorem Channel.sound_shut (h : c.sound) : c.shut.sound := by
  obtain ⟨-, -, -, -, -, hlost, -⟩ := h
  exact ⟨Nat.zero_le _, List.nodup_nil, fun _ hz => absurd hz List.not_mem_nil, fun h => absurd rfl h, Nat.zero_le _, hlost,
    fun _ => ⟨rfl, rfl, rfl⟩,
    rfl, nofun, fun _ _ he => absurd he List.not_mem_nil, List.Pairwise.nil⟩

/-- A channel after RESTART is empty, and not STARVED (R117). -/
theorem Channel.sound_restarted (c : Channel) : c.restarted.sound := by
  have heligible : c.restarted.eligible = 0 := by
    unfold Channel.eligible
    split <;> rfl
  have hstarved : c.restarted.state ≠ .starved := by
    unfold Channel.restarted
    dsimp only
    split
    · exact nofun
    · assumption
  refine ⟨Nat.zero_le _, List.nodup_nil, fun _ hz => absurd hz List.not_mem_nil, fun h => absurd rfl h, Nat.zero_le _, Nat.zero_le _,
    fun _ => ⟨rfl, rfl, rfl⟩, ?_, fun h => absurd h hstarved, fun _ _ he => absurd he List.not_mem_nil, List.Pairwise.nil⟩
  simp [Channel.exhausted, heligible]

/-- Credit granted, of at least 1, opens a STARVED channel (R111). -/
theorem Channel.sound_credited (h : c.sound) {amount : Nat} (hamount : amount ≠ 0) : (c.credited amount).sound := by
  obtain ⟨hroom, hnodup, hapart, hfull, hcredit, hlost, hclosed, -, hstarved, hprompt, hdue⟩ := h
  have hsome : (c.credited amount).credit ≠ 0 := by simp [Channel.credited, Config.creditMax]; omega
  have hopened : (c.credited amount).state ≠ .starved := by
    unfold Channel.credited
    dsimp only
    split
    · exact nofun
    · assumption
  refine ⟨hroom, hnodup, hapart, hfull, Nat.min_le_right _ _, hlost, fun hstate => ?_, ?_, fun h => absurd h hopened,
    hprompt, hdue⟩
  · have : c.state = .closed := by
      unfold Channel.credited at hstate
      dsimp only at hstate
      split at hstate
      · cases hstate
      · exact hstate
    exact hclosed this
  · simp [Channel.exhausted, hsome]

/-- A channel whose CREDIT-OUT notice has been sent (R110). -/
theorem Channel.sound_noticeSent (h : c.sound) : Channel.sound { c with creditOut := none } := by
  obtain ⟨hroom, hnodup, hapart, hfull, hcredit, hlost, hclosed, hexhausted, hstarved, hprompt, hdue⟩ := h
  exact ⟨hroom, hnodup, hapart, hfull, hcredit, hlost, fun h => ⟨(hclosed h).1, (hclosed h).2.1, rfl⟩, hexhausted,
    hstarved, hprompt, hdue⟩

theorem Bits.eq_zero_of_has {n : Nat} {v : BitVec n} (h : ∀ i, Bits.has i v = false) : v = 0 :=
  BitVec.eq_of_getLsbD_eq fun i _ => by
    simpa [Bits.has] using h i

/-- What a channel holds before its refill: all but zones owed behind a full queue alone. -/
structure Channel.Unpaid (c : Channel) : Prop where
  room : c.queue.length ≤ 64
  nodup : c.queuedZones.Nodup
  apart : ∀ z ∈ c.queuedZones, Bits.has z c.owed = false
  credit : c.credit ≤ 255
  lost : c.lost ≤ 65535
  opened : c.state = .opened
  prompt : c.mode = .prompt → ∀ e ∈ c.queue, e.due = false
  dueFirst : c.queue.Pairwise fun e f => f.due = true → e.due = true

theorem Channel.queuedZones_paid (zones : List Nat) (c : Channel) :
    (c.paid zones).queuedZones = c.queuedZones ++ zones := by
  have hjoined : (zones.map fun zone => (⟨.summary zone, false⟩ : Entry)).filterMap (fun e => e.item.summaryZone) = zones :=
    List.filterMap_map.trans List.filterMap_some
  exact List.filterMap_append.trans (congrArg (c.queuedZones ++ ·) hjoined)

/-- The refill leaves zones owed behind a full queue alone (R104, R105). -/
theorem Channel.Unpaid.live_refill (h : c.Unpaid) : c.refill.Live := by
  rw [Channel.refill_eq_paid]
  generalize hzones : (Bits.members c.owed).take (64 - c.queue.length) = zones
  have howed (z : Nat) (hz : z ∈ zones) : Bits.has z c.owed = true := by
    rw [← hzones] at hz
    exact (Bits.mem_members _ _).1 (List.mem_of_mem_take hz)
  have hleft (z : Nat) : Bits.has z (c.paid zones).owed = (Bits.has z c.owed && !zones.contains z) :=
    Bits.has_foldl_drop zones c.owed z
  have hlength : (c.paid zones).queue.length = c.queue.length + zones.length := by simp [Channel.paid]
  have hroom : zones.length ≤ 64 - c.queue.length := by rw [← hzones]; exact List.length_take_le _ _
  have := h.room
  refine ⟨by omega, ?nodup, ?apart, ?full, h.credit, h.lost, ?live, ?starved, ?prompt, ?dueFirst⟩
  case nodup =>
    rw [Channel.queuedZones_paid]
    refine List.nodup_append.2 ⟨h.nodup, hzones ▸ (Bits.nodup_members _).sublist (List.take_sublist _ _), ?_⟩
    exact fun z hq zone hz hsame => Bool.noConfusion ((h.apart z hq).symm.trans (howed z (hsame ▸ hz)))
  case apart =>
    rw [Channel.queuedZones_paid]
    intro z hz
    rw [hleft]
    rcases List.mem_append.1 hz with hz | hz
    · rw [h.apart z hz, Bool.false_and]
    · simp [hz]
  case full =>
    intro hne
    refine Decidable.byContradiction fun hshort => ?_
    refine hne (Bits.eq_zero_of_has fun z => ?_)
    rw [hleft]
    have hall : zones = Bits.members c.owed := by
      rw [← hzones]
      refine List.take_of_length_le (Nat.le_of_not_lt fun hlong => ?_)
      have hfilled : zones.length = 64 - c.queue.length := by rw [← hzones, List.length_take]; omega
      omega
    by_cases hz : Bits.has z c.owed = true
    · simp [hall, (Bits.mem_members _ _).2 hz]
    · simp [hz]
  case live => exact fun e => nomatch h.opened.symm.trans e
  case starved => exact fun e => nomatch h.opened.symm.trans e
  case prompt =>
    intro hmode e he
    rcases List.mem_append.1 he with he | he
    · exact h.prompt hmode e he
    · obtain ⟨z, -, rfl⟩ := List.mem_map.1 he
      rfl
  case dueFirst =>
    refine List.pairwise_append.2 ⟨h.dueFirst, ?_, fun e _ f hf hdue => ?_⟩
    · exact List.pairwise_map.2 (List.pairwise_of_forall fun _ _ hdue => hdue)
    · obtain ⟨z, -, rfl⟩ := List.mem_map.1 hf
      exact Bool.noConfusion hdue

/-- An OPEN channel after its REPORT frame (R108). -/
theorem Channel.live_sent (h : c.sound) (hopen : c.state = .opened) : c.sent.Live := by
  obtain ⟨hroom, hnodup, hapart, -, hcredit, hlost, -, -, -, hprompt, hdue⟩ := h
  have hsub := List.drop_sublist c.taken c.queue
  have hzones : List.Sublist (Channel.queuedZones { c with queue := c.queue.drop c.taken, credit := c.credit - 1 })
      c.queuedZones := hsub.filterMap _
  refine Channel.Unpaid.live_refill ⟨Nat.le_trans hsub.length_le hroom, hnodup.sublist hzones,
    fun z hz => hapart z (hzones.subset hz), Nat.le_trans (Nat.sub_le _ _) hcredit, hlost, hopen,
    fun hmode e he => hprompt hmode e (hsub.subset he), hdue.sublist hsub⟩

end Channel

/-! ## The channels' table -/

theorem Table.insert_insert {α : Type} (key : Nat) (a b : α) (t : Table α) :
    Table.insert key b (Table.insert key a t) = Table.insert key b t := by
  induction t with
  | nil => simp [Table.insert]
  | cons e rest ih =>
    obtain ⟨k, v⟩ := e
    by_cases hlow : key < k
    · simp [Table.insert, hlow]
    · by_cases hkey : k = key
      · simp [Table.insert, hkey]
      · simp [Table.insert, hlow, hkey, ih]

theorem Table.set_of_ne {α : Type} [DecidableEq α] {reset value : α} (h : value ≠ reset) (key : Nat) (t : Table α) :
    Table.set reset key value t = Table.insert key value t := if_neg h

/-- Every listed channel is sound. -/
def Reporting.ChannelsSound (r : Reporting) : Prop := ∀ e ∈ r.channels, e.2.sound

section Channels

variable {r : Reporting} (h : r.ChannelsSound)
include h

theorem Reporting.ChannelsSound.channel (n : Nat) : (r.channel n).sound := by
  unfold Reporting.channel
  rcases Table.get_mem Channel.reset n r.channels with e | hmem
  · rw [e]
    exact Channel.sound_reset
  · exact h _ hmem

theorem Reporting.ChannelsSound.setChannel (n : Nat) {c : Channel} (hc : c.sound) : (r.setChannel n c).ChannelsSound := by
  intro e he
  rcases Table.mem_set he with rfl | he
  · exact hc
  · exact h e he

/-- A channel written and settled: what counts is the settled channel. -/
theorem Reporting.ChannelsSound.settle (now n : Nat) {c : Channel} (hc : (c.settled now n).sound) :
    ((r.setChannel n c).settle now n).ChannelsSound := by
  unfold Channel.settled at hc
  rcases (r.setChannel n c).settle_cases now n with ⟨hex, e⟩ | ⟨hex, e⟩ <;>
    rw [Reporting.setChannel_channel_self] at hex
  · rw [e]
    simp only [hex] at hc
    exact h.setChannel n hc
  · have hwritten : ((r.setChannel n c).settle now n).channels
        = Table.insert n { c with state := .starved, creditOut := some (c.frozenCreditOut now n) } r.channels := by
      have hopened := ((Channel.exhausted_iff c).1 hex).1
      have hc : c ≠ Channel.reset := fun hreset => by simp [hreset, Channel.reset] at hopened
      rw [e, Reporting.setChannel_channel_self]
      simp only [Reporting.raise, Reporting.setChannel]
      rw [Table.set_of_ne hc, Table.set_of_ne fun hreset => ChannelState.noConfusion (congrArg Channel.state hreset),
        Table.insert_insert]
    rw [if_pos hex] at hc
    intro e he
    rw [hwritten] at he
    rcases Table.mem_insert he with rfl | he
    · exact hc
    · exact h e he

theorem Reporting.ChannelsSound.offerZoneTo (now zone n : Nat) : (r.offerZoneTo now zone n).ChannelsSound := by
  unfold Reporting.offerZoneTo
  dsimp only
  split
  · next hserves =>
    have hlive : (r.channel n).state ≠ .closed := by simp [Channel.serves] at hserves; exact hserves.1
    exact h.settle now n (((Channel.live_of_sound (h.channel n) hlive).takeZone zone).sound_settled now n)
  · exact h

theorem Reporting.ChannelsSound.offerNoticeTo (now : Nat) (x : Notice) (n : Nat) :
    (r.offerNoticeTo now x n).ChannelsSound := by
  unfold Reporting.offerNoticeTo
  dsimp only
  split
  · next hserves =>
    have hlive : (r.channel n).state ≠ .closed := by simp [Channel.serves] at hserves; exact hserves.1
    split
    · next hroom =>
      exact h.settle now n (((Channel.live_of_sound (h.channel n) hlive).join hroom (by simp [Item.summaryZone])).sound_settled now n)
    · exact h.setChannel n (Channel.lose_sound (h.channel n))
  · exact h

theorem Reporting.ChannelsSound.count (c : Ctr) (n : Nat) : (r.count c n).ChannelsSound := h

theorem Reporting.ChannelsSound.applyChange (now step : Nat) (old new : Contribution) :
    (r.applyChange now step old new).ChannelsSound :=
  Reporting.applyChange_induction (P := Reporting.ChannelsSound) (fun _ _ _ h => h) (fun _ _ _ h => h)
    (fun _ now z n h => h.offerZoneTo now z n) h now step old new

theorem Reporting.ChannelsSound.notify (now : Nat) (selected : Bool) (x : Notice) :
    (r.notify now selected x).ChannelsSound :=
  Reporting.notify_induction (P := Reporting.ChannelsSound) (fun _ _ _ h => h)
    (fun _ now x n h => h.offerNoticeTo now x n) h now selected x

theorem Reporting.ChannelsSound.boundaryTo (now n : Nat) : (r.boundaryTo now n).ChannelsSound :=
  h.settle now n (Channel.sound_boundary_settled (h.channel n) now n)

theorem Reporting.ChannelsSound.syncZones (now n : Nat) (zones : List Nat) (hlive : (r.channel n).state ≠ .closed) :
    (r.syncZones now n zones).1.ChannelsSound := by
  induction zones generalizing r with
  | nil => exact h
  | cons zone zones ih =>
    have htaken := (Channel.live_of_sound (h.channel n) hlive).takeZone zone
    refine ih (h.settle now n (htaken.sound_settled now n)) ?_
    rw [Reporting.settle_channel_self, Reporting.setChannel_channel_self, Channel.settled]
    split
    · exact nofun
    · exact htaken.live

end Channels

/-- Traffic of bins and reports keeps the channels sound. -/
theorem Traffic.channelsSound {R : Nat → Bin → Bin → Prop} {bins bins' : Table Bin} {r r' : Reporting}
    (h : Traffic R bins r bins' r') (hr : r.ChannelsSound) : r'.ChannelsSound := by
  induction h with
  | start => exact hr
  | conditions _ u hu ih => exact ih
  | write _ n b now step _ ih => exact ih.applyChange _ _ _ _
  | notice _ now selected x ih => exact ih.notify _ _ _

/-! ## Command by command -/

section Commands

variable {s : State}

theorem State.channelsSound_of_agrees {t : State} (h : s.report.ChannelsSound) (hc : s.agrees t .channels) :
    t.report.ChannelsSound := by
  unfold Reporting.ChannelsSound
  rw [show t.report.channels = s.report.channels from hc]
  exact h

theorem State.channelsSound_reply (h : s.report.ChannelsSound) (result : ResultCode) (content : List Octet) :
    (s.reply result content).report.ChannelsSound :=
  State.channelsSound_of_agrees h (s.reply_leaves result content .channels (by decide))

theorem State.channelsSound_serve (h : s.report.ChannelsSound) {k : RequestKind} {bare : List Octet}
    {rule : List Octet → State → State} (hrule : ∀ args, (rule args s).report.ChannelsSound) :
    (s.serve k bare rule).report.ChannelsSound :=
  State.serve_induction (P := fun t => t.report.ChannelsSound) h (State.channelsSound_reply h _ _) fun r _ => hrule r.args

theorem State.channelsSound_onChannelNamed (h : s.report.ChannelsSound) {args : List Octet}
    {rule : Nat → State → State} (hrule : ∀ n, (rule n s).report.ChannelsSound) :
    (s.onChannelNamed args rule).report.ChannelsSound :=
  State.onChannelNamed_induction (P := fun t => t.report.ChannelsSound) (State.channelsSound_reply h _ _) fun _ => hrule _

theorem State.channelsSound_takeBoundary (h : s.report.ChannelsSound) : s.takeBoundary.report.ChannelsSound := by
  unfold State.takeBoundary
  split
  · have hfold (numbers : List Nat) (r : Reporting) (hr : r.ChannelsSound) :
        (numbers.foldl (Reporting.boundaryTo s.now) r).ChannelsSound :=
      List.foldlRecOn _ _ hr fun r hr n _ => hr.boundaryTo _ n
    rw [State.onReport_report]
    exact hfold _ _ h
  · exact h

theorem State.channelsSound_overdueEvents (h : s.report.ChannelsSound) : s.overdueEvents.report.ChannelsSound := by
  have hboundary (u : State) (hu : u.report = s.report) : u.takeBoundary.takeHoldoffEnd.report.ChannelsSound :=
    State.channelsSound_of_agrees (State.channelsSound_takeBoundary (s := u) (by rwa [hu]))
      (u.takeBoundary.takeHoldoffEnd_leaves .channels (by decide))
  unfold State.overdueEvents
  exact hboundary _ (by rw [State.takeAutoExpiry_report, State.foldl_takeHoldExpiry_report])

/-- Every command keeps the channels sound. -/
theorem exec_keeps_channelsSound (c : Instr) (h : s.report.ChannelsSound) :
    EveryNext (fun t => t.report.ChannelsSound) (exec c s) := by
  have hother (hc : .channels ∉ changedParts c) : EveryNext (fun t => t.report.ChannelsSound) (exec c s) :=
    fun t ht => State.channelsSound_of_agrees h (exec_agrees ht hc)
  cases c with
  | deviceReset => exact everyNext_next.2 fun e he => absurd he List.not_mem_nil
  | creditOutNotice =>
    dsimp only [exec, execCreditOutNotice]
    split
    · split
      · exact everyNext_next.2 (h.setChannel _ (Channel.sound_noticeSent (h.channel _)))
      · exact everyNext_next.2 h
    · exact everyNext_next.2 h
  | reportFrame =>
    dsimp only [exec, execReportFrame]
    split
    · next n hgrant =>
      split
      · exact everyNext_next.2 h
      · next hout =>
        have hopen := ((Channel.requests_iff hout).1 (State.requests_of_egressGrant hgrant)).1
        have hsent := (Channel.live_sent (h.channel n) hopen).sound_settled s.now n
        exact everyNext_next.2 ((h.settle s.now n hsent).count .reportFrame 1)
    · exact everyNext_next.2 h
  | partTimeTick =>
    refine everyNext_next.2 (State.channelsSound_of_agrees (State.channelsSound_overdueEvents h) ?_)
    exact s.overdueEvents.countTick_leaves .channels (by decide)
  | paceBoundary => exact everyNext_next.2 (State.channelsSound_takeBoundary h)
  | recordFetch | runWrite | application | writeBack | visit | staleWrite | loadGrant | convertedRead | binReadAccess
  | binScan => exact fun t ht => (exec_traffic s rfl t ht).channelsSound h
  | restartCarriedOut =>
    have hrestarted (u : State) : u.blocksRestarted.report.ChannelsSound := fun e he => by
      obtain ⟨x, -, rfl⟩ := List.mem_map.1 (List.mem_filter.1 he).1
      exact x.2.sound_restarted
    dsimp only [exec, execRestartCarriedOut]
    split
    · exact everyNext_next.2 (hrestarted _)
    · exact everyNext_next.2 (hrestarted _)
    · exact everyNext_next.2 h
  | channelSet =>
    refine everyNext_next.2 (State.channelsSound_serve h fun args => State.channelsSound_onChannelNamed h fun n => ?_)
    unfold State.serveChannelSet
    dsimp only
    split
    · exact State.channelsSound_reply h _ _
    · exact State.channelsSound_reply (h.setChannel n (Channel.sound_configured (h.channel n) _ _ _)) _ _
  | channelClose =>
    exact everyNext_next.2 (State.channelsSound_serve h fun args => State.channelsSound_onChannelNamed h fun n =>
      State.channelsSound_reply (h.setChannel n (Channel.sound_shut (h.channel n))) _ _)
  | credit =>
    refine everyNext_next.2 (State.channelsSound_serve h fun args => State.channelsSound_onChannelNamed h fun n => ?_)
    unfold State.serveCredit
    dsimp only
    split
    · exact State.channelsSound_reply h _ _
    · next hamount =>
      exact State.channelsSound_reply (h.setChannel n (Channel.sound_credited (h.channel n) hamount)) _ _
  | sync =>
    refine everyNext_next.2 (State.channelsSound_serve h fun args => State.channelsSound_onChannelNamed h fun n => ?_)
    unfold State.serveSync
    dsimp only
    split
    · exact State.channelsSound_reply h _ _
    · next hlive => exact State.channelsSound_reply (s := { s with report := _ }) (h.syncZones _ _ _ hlive) _ _
  | lengthOctetError link octet => cases link <;> exact hother (by simp [changedParts, linkParts])
  | _ => exact hother (by simp [changedParts, linkParts])

end Commands

/-- Settles O7: every command keeps the channels sound. -/
theorem stepKeepsChannelsSound : Obligations.StepKeepsChannelsSound := fun _ _ hs h =>
  step_keeps (P := fun s => s.report.ChannelsSound) (fun _ _ h => h)
    (fun c _ t hs => exec_keeps_channelsSound c hs t) hs h

end Sys2Proof.Machine

/-! Every bin a row of the status table, and what may reach a bin in range (R2, R3, R5, R70). -/

namespace Sys2Proof.Machine

/-! ## What a command makes of the Reading Unit -/

/-- Where the Reading Unit goes in one step: it stays, it falls IDLE, it fetches, or it follows the stage of its reading;
what it keeps at the fetch is the bin as the step leaves it. -/
inductive State.ReaderStep (s t : State) : Prop
  | same (h : t.reader = s.reader)
  | idle (h : t.reader = .idle)
  | fetched (taken : Taken) (h : t.reader = .fetch taken)
  | outOfOrder (taken : Taken) (generation run : Nat) (h : t.reader = .runWrite taken generation run)
      (hverdict : judgeSequence (t.bin taken.reading.bin).fill taken.reading.sequence = .outOfOrder run)
  | accepted (a : Accepted) (h : t.reader = .compute a)
      (hactive : (t.bin a.taken.reading.bin).fill.service = .active)
      (hrecord : a.record = (t.bin a.taken.reading.bin).record) (hfill : a.fill = (t.bin a.taken.reading.bin).fill)
      (hgeneration : a.generation = (t.bin a.taken.reading.bin).generation)
      (hverdict : judgeSequence a.fill a.taken.reading.sequence = .accepted a.gapCount a.gapGain a.sensorRestart)
  | held (a : Accepted) (cause : HoldCause) (hbefore : s.reader = .compute a) (h : t.reader = .apply a (.held cause))
  | computed (a : Accepted) (drop time : Nat) (temperature : Int) (hbefore : s.reader = .compute a)
      (h : t.reader = .apply a (computeFill a.record a.fill.filtered drop time temperature
        (s.curves.slot s.curves.active a.record.curve).points))

section ReaderSteps

variable {s : State}

theorem State.readerStep_checkReading (u : State) (taken : Taken) :
    s.ReaderStep (u.checkReading taken (u.bin taken.reading.bin)) := by
  unfold State.checkReading
  split
  · exact .idle rfl
  · next hoff =>
    split
    · exact .idle rfl
    · next hfault =>
      have hactive : (u.bin taken.reading.bin).fill.service = .active := by
        cases hservice : (u.bin taken.reading.bin).fill.service with
        | off => exact absurd hservice hoff
        | active => rfl
        | fault => exact absurd hservice hfault
      split
      · exact .idle rfl
      · split
        · exact .idle rfl
        · split
          · unfold State.park
            split <;> exact .idle rfl
          · unfold State.checkSequence
            split
            · exact .idle rfl
            · next run hverdict => exact .outOfOrder taken _ run rfl hverdict
            · next gapCount gapGain sensorRestart hverdict => exact .accepted _ rfl hactive rfl rfl rfl hverdict

theorem State.readerStep_fillComputation (wear : Wear) : EveryNext s.ReaderStep (execFillComputation wear s) := by
  unfold execFillComputation
  split
  · next a hreader =>
    split
    · exact everyNext_next.2 (.held a _ hreader rfl)
    · dsimp only
      split
      · split
        · exact everyNext_next.2 (.held a .curve hreader rfl)
        · exact everyNext_next.2 (.computed a _ _ _ hreader rfl)
      · exact everyNext_fault
  · exact everyNext_next.2 (.same rfl)

/-- What every command makes of the Reading Unit. -/
theorem exec_readerStep (c : Instr) : EveryNext s.ReaderStep (exec c s) := by
  have hother (hc : .reader ∉ changedParts c) : EveryNext s.ReaderStep (exec c s) :=
    fun t ht => .same (exec_agrees (p := .reader) ht hc)
  have hrefl : s.ReaderStep s := .same rfl
  cases c with
  | deviceReset => exact everyNext_next.2 (.idle rfl)
  | handOver =>
    dsimp only [exec, execHandOver]
    split
    · exact everyNext_next.2 hrefl
    · split
      · exact everyNext_next.2 (.fetched _ rfl)
      · exact everyNext_next.2 hrefl
  | takeReleasedEntry =>
    dsimp only [exec, execTakeReleasedEntry]
    split
    · exact everyNext_next.2 hrefl
    · split
      · exact everyNext_next.2 (.fetched _ rfl)
      · exact everyNext_next.2 hrefl
  | recordFetch wear =>
    dsimp only [exec, execRecordFetch]
    split
    · split
      · split
        · exact everyNext_next.2 (.idle rfl)
        · exact everyNext_next.2 (State.readerStep_checkReading _ _)
        · exact everyNext_next.2 (State.readerStep_checkReading _ _)
      · exact everyNext_next.2 hrefl
    · exact everyNext_next.2 hrefl
  | fillComputation wear => exact State.readerStep_fillComputation wear
  | runWrite wear =>
    dsimp only [exec, execRunWrite]
    split
    · split
      · split <;> exact everyNext_next.2 (.idle rfl)
      · exact everyNext_next.2 hrefl
    · exact everyNext_next.2 hrefl
  | application wear =>
    dsimp only [exec, execApplication]
    split
    · split
      · split
        · exact everyNext_next.2 (.idle rfl)
        · split
          · exact everyNext_next.2 (.idle rfl)
          · exact everyNext_next.2 (.idle rfl)
      · exact everyNext_next.2 hrefl
    · exact everyNext_next.2 hrefl
  | tableWideClear =>
    dsimp only [exec, execTableWideClear]
    split
    · exact everyNext_next.2 (.idle rfl)
    · exact everyNext_next.2 hrefl
  | restartCarriedOut =>
    dsimp only [exec, execRestartCarriedOut]
    split
    · exact everyNext_next.2 (.idle rfl)
    · exact everyNext_next.2 (.idle rfl)
    · exact everyNext_next.2 hrefl
  | lengthOctetError link octet => cases link <;> exact hother (by simp [changedParts, linkParts])
  | _ => exact hother (by simp [changedParts, linkParts, accessParts])

end ReaderSteps

/-! ## What a command makes of the stage of the Management Unit -/

/-- A load waits behind its checks: its bin is one of the table, its record in range, and the curve of a record in
service present in the active bank (R17, R19). -/
def Stage.checkedLoad (s : State) (stage : Stage) : Prop :=
  ∃ n record poison, stage = .load n record poison ∧ n ≤ 4095 ∧ record.inRange = true
    ∧ (record.inService = true → s.holdsCurve s.curves.active record)

/-- What BIN LOAD makes of the stage. -/
theorem execBinLoad_stage (s : State) : EveryNext (fun t => t.mgmt.stage = s.mgmt.stage ∨ t.mgmt.stage.calm
    ∨ t.mgmt.stage.checkedLoad s) (execBinLoad s) := by
  have hreply (result : ResultCode) :
      (s.reply result []).mgmt.stage = s.mgmt.stage ∨ (s.reply result []).mgmt.stage.calm := by
    rcases s.reply_mgmt_cases result [] with ⟨_, e⟩ | ⟨r, rest, _, e⟩
    · exact .inl (by rw [e])
    · exact .inr (by rw [e]; exact ⟨rfl, rfl⟩)
  refine everyNext_next.2 (State.serve_induction (P := fun t => t.mgmt.stage = s.mgmt.stage ∨ t.mgmt.stage.calm
    ∨ t.mgmt.stage.checkedLoad s) (.inl rfl) ((hreply _).imp_right .inl) fun r _ => State.unlessLocked_induction
      (P := fun t => t.mgmt.stage = s.mgmt.stage ∨ t.mgmt.stage.calm ∨ t.mgmt.stage.checkedLoad s) ?_ fun _ => ?_)
  · rcases s.reply_mgmt_cases .locked (lockOctets s.mgmt.lock) with ⟨_, e⟩ | ⟨r, rest, _, e⟩
    · exact .inl (by rw [e])
    · exact .inr (.inl (by rw [e]; exact ⟨rfl, rfl⟩))
  · unfold State.serveBinLoad
    dsimp only
    split
    · exact (hreply _).imp_right .inl
    · next hbin =>
      split
      · exact .inr (.inl ⟨rfl, rfl⟩)
      · split
        · exact (hreply _).imp_right .inl
        · next hrange =>
          split
          · exact (hreply _).imp_right .inl
          · next hcurve =>
            refine .inr (.inr ⟨_, _, _, rfl, Nat.le_of_not_lt hbin, by simpa using hrange, fun hservice => ?_⟩)
            simpa [hservice, Slot.present] using hcurve

/-- What CURVE SWAP makes of the stage (R34). -/
theorem execCurveSwap_stage (wear : List Wear) (s : State) : EveryNext (fun t => t.mgmt.stage = s.mgmt.stage
    ∨ t.mgmt.stage.calm ∨ t.mgmt.stage = .scan 0) (execCurveSwap wear s) := by
  have hreply (u : State) (hu : u.mgmt.stage = s.mgmt.stage) (result : ResultCode) (content : List Octet) :
      (u.reply result content).mgmt.stage = s.mgmt.stage ∨ (u.reply result content).mgmt.stage.calm := by
    rcases u.reply_mgmt_cases result content with ⟨_, e⟩ | ⟨r, rest, _, e⟩
    · exact .inl (by rw [e, hu])
    · exact .inr (by rw [e]; exact ⟨rfl, rfl⟩)
  have htested : (s.testSlots s.curves.active.other (List.range 32) wear).1.mgmt = s.mgmt :=
    s.testSlots_leaves _ _ _ .mgmt (by decide)
  refine everyNext_next.2 (State.serve_induction (P := fun t => t.mgmt.stage = s.mgmt.stage ∨ t.mgmt.stage.calm
    ∨ t.mgmt.stage = .scan 0) (.inl rfl) ((hreply s rfl _ _).imp_right .inl) fun r _ => State.unlessLocked_induction
      (P := fun t => t.mgmt.stage = s.mgmt.stage ∨ t.mgmt.stage.calm ∨ t.mgmt.stage = .scan 0) ((hreply s rfl _ _).imp_right .inl) fun _ => ?_)
  unfold State.serveCurveSwap
  dsimp only
  split
  · exact (hreply _ (by rw [State.onReport_mgmt, State.onMgmt_mgmt, htested]) _ _).imp_right .inl
  · exact .inr (.inr rfl)

/-- A bin found damaged by an access that may enter FAULT is not ACTIVE after it (R8). -/
theorem State.access_damaged_not_active (s : State) {kind : AccessKind} (hk : kind ≠ .load) (test : Bool) {n : Nat}
    {w : Wear} (h : s.finding kind n w = .damaged) : ((s.access kind test n w).bin n).fill.service ≠ .active := by
  rw [State.access_bin]
  by_cases hactive : (s.bin n).fill.service = .active
  · simp [h, hk, hactive, FillState.faulted]
  · simp [hactive]

/-- What the bin scan makes of the stage: it passes a bin whose curve is present, or that is not ACTIVE (R35). -/
theorem execBinScan_stage (wear : Wear) (s : State) : EveryNext (fun t => t.mgmt.stage = s.mgmt.stage
    ∨ t.mgmt.stage.calm ∨ ∃ n, s.mgmt.stage = .scan n
      ∧ (t.mgmt.stage = .scan (n + 1) ∨ n = 4095 ∧ t.mgmt.stage = .exchange)
      ∧ ((t.bin n).fill.service = .active → t.holdsCurve t.curves.active.other (t.bin n).record)) (execBinScan wear s) := by
  unfold execBinScan
  split
  · next n hstage =>
    split
    · dsimp only
      have hmgmt := State.granted_access_mgmt s .managementUnit .read false n wear
      split
      · refine everyNext_next.2 ?_
        unfold State.lockAndReply
        rcases State.reply_mgmt_cases ((((s.granted .managementUnit).access .read false n wear).onMgmt fun m =>
          { m with lock := some (.curveMissing, n) }).onReport fun r => { r with conditions := r.conditions.lockRises })
          .locked (lockOctets (some (.curveMissing, n))) with ⟨_, e⟩ | ⟨r, rest, _, e⟩
        · exact .inl (by rw [e, State.onReport_mgmt, State.onMgmt_mgmt, hmgmt])
        · exact .inr (.inl (by rw [e]; exact ⟨rfl, rfl⟩))
      · next hcheck =>
        refine everyNext_next.2 (.inr (.inr ⟨n, hstage, ?_, fun hactive => ?_⟩))
        · unfold State.scanOn
          dsimp only [State.onMgmt, Config.lastBin]
          by_cases hlast : n = 4095
          · exact .inr ⟨hlast, if_pos hlast⟩
          · exact .inl (if_neg hlast)
        · have hreadable : s.finding .read n wear ≠ .damaged := fun hdamaged =>
            State.access_damaged_not_active (s.granted .managementUnit) (by decide) false hdamaged hactive
          intro habsent
          refine hcheck ⟨hreadable, hactive, ?_⟩
          rw [Slot.present, Bool.not_eq_false', List.isEmpty_iff]
          exact habsent
    · exact everyNext_next.2 (.inl rfl)
  · exact everyNext_next.2 (.inl rfl)

/-! ## The fill result in range -/

theorem rawFill_le (height : Nat) {points : List Point} (h : ∀ p ∈ points, p.fill ≤ 1000) : rawFill height points ≤ 1000 := by
  induction points with
  | nil => exact Nat.zero_le _
  | cons p rest ih =>
    cases rest with
    | nil => exact h p (List.mem_singleton_self p)
    | cons q rest =>
      unfold rawFill
      have hp := h p (by simp)
      have hq := h q (by simp)
      split
      · have hquotient : (q.fill - p.fill) * (height - p.height) / (q.height - p.height) ≤ q.fill - p.fill :=
          Nat.div_le_of_le_mul (Nat.le_trans (Nat.mul_le_mul_left _ (by omega)) (Nat.le_of_eq (Nat.mul_comm _ _)))
        omega
      · exact ih fun x hx => h x (List.mem_cons_of_mem _ hx)

theorem filterReading_le {old : Option Nat} {raw weight : Nat} (drop : Nat) (hold : old.getD 0 ≤ 1000) (hraw : raw ≤ 1000)
    (hw : weight ≤ 16) : (filterReading old raw drop weight).1 ≤ 1000 := by
  cases old with
  | none => exact hraw
  | some o =>
    by_cases hemptying : raw + drop ≤ o
    · rw [filterReading_of_emptying hemptying]
      exact hraw
    · rw [filterReading_of_not_emptying hemptying]
      obtain ⟨-, -, hhigh, -⟩ := filterStep_moves_toward (old := o) (raw := raw) hw
      exact Nat.le_trans hhigh (Nat.max_le.2 ⟨hold, hraw⟩)

theorem litresOf_le {filtered capacity : Nat} (hf : filtered ≤ 1000) (hc : capacity ≤ 5000) :
    litresOf filtered capacity ≤ 5000 := by
  have := Nat.mul_le_mul hf hc
  unfold litresOf
  omega

theorem BinRecord.bounds_of_inRange {r : BinRecord} (h : r.inRange = true) :
    r.zone ≤ 63 ∧ r.capacity ≤ 5000 ∧ r.weight ≤ 16 := by
  unfold BinRecord.inRange at h
  simp only [Bool.and_eq_true, decide_eq_true_eq] at h
  omega

/-! ## Fill States -/

section FillStates

variable {f : FillState}

theorem FillState.sound_faulted (h : f.sound) (hactive : f.service = .active) : f.faulted.sound := by
  obtain ⟨-, -, -, hzone, -, -, -, -, hcountedZone, hrun, hgap⟩ := h
  have hcounted : f.countedZone ≠ none := fun e => Service.noConfusion (hactive.symm.trans (hzone.2 e))
  exact ⟨fun _ => ⟨rfl, rfl, rfl, rfl⟩, iff_of_true rfl rfl, iff_of_true rfl rfl, iff_of_false nofun hcounted,
    fun _ => rfl, Nat.zero_le _, Nat.zero_le _, Nat.zero_le _, hcountedZone, hrun, hgap⟩

theorem FillState.sound_stale (h : f.sound) (hactive : f.service = .active) : FillState.sound { f with stale := true } := by
  obtain ⟨-, hlevel, hraw, hzone, hlitres, hfiltered, hlast, hcounted, hcountedZone, hrun, hgap⟩ := h
  exact ⟨fun e => absurd hactive e, hlevel, hraw, hzone, hlitres, hfiltered, hlast, hcounted, hcountedZone, hrun, hgap⟩

theorem FillState.sound_run (h : f.sound) {run : Nat} (hrun : run ≤ 2) : FillState.sound { f with outOfOrderRun := run } := by
  obtain ⟨hout, hlevel, hraw, hzone, hlitres, hfiltered, hlast, hcounted, hcountedZone, -, hgap⟩ := h
  exact ⟨hout, hlevel, hraw, hzone, hlitres, hfiltered, hlast, hcounted, hcountedZone, hrun, hgap⟩

theorem FillState.sound_heardFrom (h : f.sound) (hactive : f.service = .active) {a : Accepted} (hgap : a.gapCount ≤ 255)
    (reception : Reception) : (f.heardFrom a reception).sound := by
  obtain ⟨-, hlevel, hraw, hzone, hlitres, hfiltered, hlast, hcounted, hcountedZone, -, -⟩ := h
  exact ⟨fun e => absurd hactive e, hlevel, hraw, hzone, hlitres, hfiltered, hlast, hcounted, hcountedZone,
    Nat.zero_le _, hgap⟩

theorem FillState.sound_filled (h : f.sound) (hactive : f.service = .active) (a : Accepted) (now : Nat) {raw filtered : Nat}
    (hraw : raw ≤ 1000) (hfiltered : filtered ≤ 1000) (emptying : Bool) {litres : Nat} (hlitres : litres ≤ 5000) :
    (f.filled a now raw filtered emptying litres).sound := by
  obtain ⟨-, -, -, hzone, -, -, -, -, hcountedZone, hrun, hgap⟩ := h
  exact ⟨fun e => absurd hactive e, iff_of_false judgeLevel_ne_unheard nofun, iff_of_false nofun nofun, hzone, nofun,
    hfiltered, hraw, hlitres, hcountedZone, hrun, hgap⟩

/-- What an application writes, the result in range as the Reading Unit carries it. -/
theorem FillState.sound_applied (h : f.sound) (hactive : f.service = .active) {a : Accepted} {result : FillResult}
    (hreader : (ReadingUnit.apply a result).sound = true) (now : Nat) (reception : Reception) :
    (f.applied a result now reception).sound := by
  cases result with
  | held cause =>
    simp only [ReadingUnit.sound, Bool.and_eq_true, decide_eq_true_eq] at hreader
    obtain ⟨-, hgap⟩ := hreader
    exact FillState.sound_heardFrom h hactive hgap reception
  | computed raw filtered emptying litres =>
    simp only [ReadingUnit.sound, Bool.and_eq_true, decide_eq_true_eq] at hreader
    obtain ⟨⟨⟨⟨-, hgap⟩, hraw⟩, hfiltered⟩, hlitres⟩ := hreader
    exact FillState.sound_filled (FillState.sound_heardFrom h hactive hgap reception) hactive a now hraw hfiltered _ hlitres

theorem FillState.sound_reset_heard (now : Nat) : FillState.sound { FillState.reset with lastHeard := now } :=
  ⟨fun _ => ⟨rfl, rfl, rfl, rfl⟩, iff_of_true rfl rfl, iff_of_true rfl rfl, iff_of_true rfl rfl, fun _ => rfl,
    Nat.zero_le _, Nat.zero_le _, Nat.zero_le _, Nat.zero_le _, Nat.zero_le _, Nat.zero_le _⟩

/-- A bin ACTIVE and UNHEARD in a zone. -/
theorem FillState.sound_afresh (now zone : Nat) (hzone : zone ≤ 63) :
    FillState.sound { FillState.reset with service := .active, lastHeard := now, countedZone := some zone } :=
  ⟨fun e => absurd rfl e, iff_of_true rfl rfl, iff_of_true rfl rfl, iff_of_false nofun nofun, fun _ => rfl,
    Nat.zero_le _, Nat.zero_le _, Nat.zero_le _, hzone, Nat.zero_le _, Nat.zero_le _⟩

theorem FillState.sound_kept (h : f.sound) (hactive : f.service = .active) {record : BinRecord}
    (hrecord : record.inRange = true) : (f.kept record).sound := by
  obtain ⟨hzone, hcapacity, -⟩ := BinRecord.bounds_of_inRange hrecord
  obtain ⟨-, hlevel, hraw, -, -, hfiltered, hlast, -, -, hrun, hgap⟩ := h
  unfold FillState.kept
  cases hvalue : f.filtered with
  | none =>
    rw [hvalue] at hlevel hraw hfiltered
    exact ⟨fun e => absurd hactive e, hlevel, hraw, iff_of_false (fun e => Service.noConfusion (hactive.symm.trans e)) nofun,
      fun _ => rfl, hfiltered, hlast, Nat.zero_le _, hzone, hrun, hgap⟩
  | some filtered =>
    rw [hvalue] at hraw hfiltered
    exact ⟨fun e => absurd hactive e, iff_of_false judgeLevel_ne_unheard nofun, hraw,
      iff_of_false (fun e => Service.noConfusion (hactive.symm.trans e)) nofun, nofun, hfiltered, hlast,
      litresOf_le hfiltered hcapacity, hzone, hrun, hgap⟩

theorem FillState.sound_cleared (h : f.sound) (now : Nat) : (f.cleared now).sound := by
  unfold FillState.cleared
  split
  · next hactive =>
    obtain ⟨-, -, -, hzone, -, -, -, -, hcountedZone, -, -⟩ := h
    cases hcounted : f.countedZone with
    | none => exact Service.noConfusion (hactive.symm.trans (hzone.2 hcounted))
    | some zone =>
      rw [hcounted] at hcountedZone
      exact FillState.sound_afresh now zone hcountedZone
  · exact h

theorem loadedFill_sound {record : BinRecord} (hrecord : record.inRange = true) (finding : Finding) (now : Nat) {old : Bin}
    (h : old.fill.sound) : (loadedFill record finding now old).sound := by
  unfold loadedFill
  split
  · exact FillState.sound_reset_heard now
  · split
    · next hkeeps =>
      simp only [keepsFill, Bool.and_eq_true, beq_iff_eq] at hkeeps
      obtain ⟨⟨⟨-, hactive⟩, -⟩, -⟩ := hkeeps
      exact FillState.sound_kept h hactive hrecord
    · exact FillState.sound_afresh now record.zone (BinRecord.bounds_of_inRange hrecord).1

end FillStates

/-! ## Bins -/

/-- A bin sound: its Fill State a row of the table, its record and generation in range (R2, R3, R5). -/
structure Bin.Sound (b : Bin) : Prop where
  fill : b.fill.sound
  record : b.record.inRange = true
  generation : b.generation ≤ 255

theorem Bin.sound_reset : Bin.reset.Sound := ⟨FillState.sound_reset_heard 0, by decide, Nat.zero_le _⟩

section Bins

variable {s : State} {b b' : Bin} {n : Nat}

theorem Bin.Sound.accessed (h : b.Sound) (hb : Bin.accessed n b b') : b'.Sound := by
  obtain ⟨hrecord, hgeneration, hfill⟩ := hb
  refine ⟨?_, hrecord ▸ h.record, hgeneration ▸ h.generation⟩
  rcases hfill with e | ⟨hactive, e⟩
  · rw [e]
    exact h.fill
  · rw [e]
    exact FillState.sound_faulted h.fill hactive

/-- A bin stays sound under every write, the reading in hand and the record that waits to be loaded in range. -/
theorem Bin.Sound.binWritten (h : b.Sound) (hreader : s.reader.sound = true) (hstage : s.mgmt.stage.sound = true)
    (hb : s.binWritten n b b') : b'.Sound := by
  rcases hb with (haccess | hrun | happly | hreception | hstale) | hload
  · exact h.accessed haccess
  · obtain ⟨t, generation, run, hrun, -, -, rfl⟩ := hrun
    rw [hrun] at hreader
    exact ⟨FillState.sound_run h.fill (by simpa [ReadingUnit.sound] using hreader), h.record, h.generation⟩
  · obtain ⟨a, result, now, reception, happly, -, -, hactive, rfl⟩ := happly
    rw [happly] at hreader
    exact ⟨FillState.sound_applied h.fill hactive hreader now reception, h.record, h.generation⟩
  · obtain ⟨reception, rfl⟩ := hreception
    exact ⟨h.fill, h.record, h.generation⟩
  · obtain ⟨hactive, rfl⟩ := hstale
    exact ⟨FillState.sound_stale h.fill hactive, h.record, h.generation⟩
  · obtain ⟨record, poison, finding, now, hload, rfl⟩ := hload
    rw [hload] at hstage
    have hgeneration : (b.generation + 1) % 256 ≤ 255 := by omega
    have hrecord : record.inRange = true := hstage
    exact ⟨loadedFill_sound hrecord finding now h.fill, hrecord, hgeneration⟩

/-- A property of every listed bin, and of the reset bin, holds of the bin that a read finds. -/
theorem Table.get_of_forall {α : Type} {P : α → Prop} {reset : α} {t : Table α} (hreset : P reset) (h : ∀ e ∈ t, P e.2)
    (key : Nat) : P (Table.get reset key t) := by
  rcases Table.get_mem reset key t with e | hmem
  · rwa [e]
  · exact h _ hmem

/-- Every command keeps the bins sound. -/
theorem exec_keeps_sound (c : Instr) (h : ∀ e ∈ s.table.bins, e.2.Sound) (hreader : s.reader.sound = true)
    (hstage : s.mgmt.stage.sound = true) : EveryNext (fun t => ∀ e ∈ t.table.bins, e.2.Sound) (exec c s) := by
  by_cases hreset : ∃ station speed, c = .deviceReset station speed
  · obtain ⟨station, speed, rfl⟩ := hreset
    exact everyNext_next.2 fun e he => absurd he List.not_mem_nil
  refine exec_keeps_bins (P := fun bins => ∀ e ∈ bins, e.2.Sound) c (fun a b e => hreset ⟨a, b, e⟩) ?_ ?_ h
  · intro n b bins hb hwritten e he
    rcases Table.mem_set he with rfl | he
    · exact (Table.get_of_forall Bin.sound_reset hb n).binWritten hreader hstage hwritten
    · exact hb e he
  · intro e he
    obtain ⟨x, hx, rfl⟩ := List.mem_map.1 (List.mem_filter.1 he).1
    exact ⟨FillState.sound_cleared (h x hx).fill _, (h x hx).record, (h x hx).generation⟩

end Bins

end Sys2Proof.Machine

/-! The three claims on the bins: sound, their litres those of their record, and their curves named and present. -/

namespace Sys2Proof.Machine

/-! ## The stage in one step -/

/-- Where the stage goes in one step: it stays, it is calm, a checked load waits in it, or a swap scans. -/
inductive State.StageStep (s t : State) : Prop
  | same (h : t.mgmt.stage = s.mgmt.stage)
  | calm (h : t.mgmt.stage.calm)
  | load (hcurves : t.curves = s.curves) (h : t.mgmt.stage.checkedLoad s)
  | swapBegun (h : t.mgmt.stage = .scan 0)
  | scanned (n : Nat) (hbefore : s.mgmt.stage = .scan n)
      (h : t.mgmt.stage = .scan (n + 1) ∨ n = 4095 ∧ t.mgmt.stage = .exchange)
      (hpresent : (t.bin n).fill.service = .active → t.holdsCurve t.curves.active.other (t.bin n).record)

theorem exec_stageStep (c : Instr) (s : State) : EveryNext s.StageStep (exec c s) := by
  intro t ht
  by_cases hc : stirsStage c
  · cases c with
    | binLoad =>
      rcases execBinLoad_stage s t ht with h | h | h
      · exact .same h
      · exact .calm h
      · exact .load (exec_agrees (c := .binLoad) (p := .curves) ht (by decide)) h
    | curveSwap wear =>
      rcases execCurveSwap_stage wear s t ht with h | h | h
      · exact .same h
      · exact .calm h
      · exact .swapBegun h
    | binScan wear =>
      rcases execBinScan_stage wear s t ht with h | h | ⟨n, hbefore, h, hpresent⟩
      · exact .same h
      · exact .calm h
      · exact .scanned n hbefore h hpresent
    | _ => exact hc.elim
  · exact (exec_stage_calms hc s t ht).elim .same .calm

/-! ## Bins sound -/

theorem Stage.sound_of_loading_none {stage : Stage} (h : stage.loading = none) : stage.sound = true := by
  cases stage with
  | load n record poison => simp [Stage.loading] at h
  | _ => rfl

theorem exec_keeps_stageSound (c : Instr) {s : State} (h : s.mgmt.stage.sound = true) :
    EveryNext (fun t => t.mgmt.stage.sound = true) (exec c s) := by
  intro t ht
  show t.mgmt.stage.sound = true
  cases exec_stageStep c s t ht with
  | same e => rwa [e]
  | calm hcalm => exact Stage.sound_of_loading_none hcalm.1
  | load _ hload =>
    obtain ⟨n, record, poison, e, -, hrange, -⟩ := hload
    rw [e]
    exact hrange
  | swapBegun e => rw [e]; rfl
  | scanned n _ h _ =>
    rcases h with e | ⟨-, e⟩ <;> rw [e] <;> rfl

theorem judgeSequence_outOfOrder_le {f : FillState} {sequence run : Nat} (h : judgeSequence f sequence = .outOfOrder run) :
    run ≤ 2 := by
  unfold judgeSequence at h
  split at h
  · cases h
  · split at h
    · cases h
    · dsimp only at h
      split at h
      · cases h
      · split at h
        · cases h
        · split at h
          · cases h
            omega
          · cases h

theorem judgeSequence_accepted_le {f : FillState} (hf : f.gapCount ≤ 255) {sequence gapCount gapGain : Nat} {restart : Bool}
    (h : judgeSequence f sequence = .accepted gapCount gapGain restart) : gapCount ≤ 255 := by
  unfold judgeSequence at h
  split at h
  · cases h
    exact hf
  · split at h
    · cases h
      exact hf
    · dsimp only at h
      split at h
      · cases h
      · split at h
        · cases h
          exact Nat.min_le_right _ _
        · split at h
          · cases h
          · cases h
            exact hf

theorem computeFill_sound {a : Accepted} (h : (ReadingUnit.compute a).sound = true) {points : List Point}
    (hpoints : ∀ p ∈ points, p.fill ≤ 1000) (drop time : Nat) (temperature : Int) :
    (ReadingUnit.apply a (computeFill a.record a.fill.filtered drop time temperature points)).sound = true := by
  simp only [ReadingUnit.sound, Bool.and_eq_true, decide_eq_true_eq] at h
  obtain ⟨⟨hrecord, hfiltered⟩, hgap⟩ := h
  obtain ⟨-, hcapacity, hweight⟩ := BinRecord.bounds_of_inRange hrecord
  have hraw := rawFill_le (heightOf a.record.emptyDepth (distanceOf time (temperatureUsed temperature))) hpoints
  have hnew := filterReading_le drop hfiltered hraw hweight
  simp only [computeFill, ReadingUnit.sound, Bool.and_eq_true, decide_eq_true_eq]
  exact ⟨⟨⟨⟨hrecord, hgap⟩, hraw⟩, hnew⟩, litresOf_le hnew hcapacity⟩

/-- The fills of every listed curve are in range (R26). -/
def CurveStore.FillsInRange (c : CurveStore) : Prop :=
  (∀ e ∈ c.bankA, ∀ p ∈ e.2.points, p.fill ≤ 1000) ∧ ∀ e ∈ c.bankB, ∀ p ∈ e.2.points, p.fill ≤ 1000

theorem CurveStore.FillsInRange.slot {c : CurveStore} (h : c.FillsInRange) (bank : Bank) (n : Nat) :
    ∀ p ∈ (c.slot bank n).points, p.fill ≤ 1000 := by
  have hget {t : Table Slot} (ht : ∀ e ∈ t, ∀ p ∈ e.2.points, p.fill ≤ 1000) :=
    Table.get_of_forall (P := fun v : Slot => ∀ p ∈ v.points, p.fill ≤ 1000) (reset := Slot.absent)
      (fun p hp => absurd hp List.not_mem_nil) ht n
  cases bank with
  | a => exact hget h.1
  | b => exact hget h.2

theorem CurveStore.FillsInRange.setSlot {c : CurveStore} (h : c.FillsInRange) (bank : Bank) (n : Nat) {v : Slot}
    (hv : ∀ p ∈ v.points, p.fill ≤ 1000) : (c.setSlot bank n v).FillsInRange := by
  have hset {t : Table Slot} (ht : ∀ e ∈ t, ∀ p ∈ e.2.points, p.fill ≤ 1000) :
      ∀ e ∈ Table.set Slot.absent n v t, ∀ p ∈ e.2.points, p.fill ≤ 1000 := fun e he => by
    rcases Table.mem_set he with rfl | he
    · exact hv
    · exact ht e he
  cases bank with
  | a => exact ⟨hset h.1, h.2⟩
  | b => exact ⟨h.1, hset h.2⟩

theorem Slot.tested_points (w : Wear) (v : Slot) : (v.tested w).points = v.points := by
  unfold Slot.tested
  split
  · rfl
  · split <;> rfl

theorem State.reply_idle {u : State} (h : u.mgmt.queue ≠ []) (result : ResultCode) (content : List Octet) :
    (u.reply result content).mgmt.stage = .idle := by
  rcases u.reply_mgmt_cases result content with ⟨hempty, _⟩ | ⟨r, rest, _, e⟩
  · exact absurd hempty h
  · rw [e]
    rfl

/-- The curves stay, or a curve in range is written to the load bank and the unit has answered (R32). -/
def State.curveWritten (s t : State) : Prop :=
  t.curves = s.curves ∨ t.mgmt.stage = .idle
    ∧ ∃ n v, t.curves = s.curves.setSlot s.curves.active.other n v ∧ ∀ p ∈ v.points, p.fill ≤ 1000

theorem execCurveLoad_curves (s : State) : EveryNext s.curveWritten (execCurveLoad s) := by
  refine everyNext_next.2 (State.serve_induction (P := s.curveWritten) (.inl rfl) (.inl (State.reply_curves _ _ _))
    fun r hoffers => State.unlessLocked_induction (P := s.curveWritten) (.inl (State.reply_curves _ _ _)) fun _ => ?_)
  unfold State.serveCurveLoad
  dsimp only
  split
  · next hrange =>
    refine .inr ⟨State.reply_idle ?_ _ _, _, _, State.reply_curves _ _ _, fun p hp => ?_⟩
    · exact ManagementUnit.queue_of_offers hoffers
    · simp only [curveInRange, Bool.and_eq_true, List.all_eq_true, decide_eq_true_eq] at hrange
      exact (hrange.2 p hp).2
  · exact .inl (State.reply_curves _ _ _)

theorem execBankExchange_curves (s : State) : EveryNext (fun t => t = s ∨ s.mgmt.stage = .exchange ∧ s.reader = .idle
    ∧ t.curves = { s.curves with active := s.curves.active.other }) (execBankExchange s) := by
  unfold execBankExchange
  split
  · next h => exact everyNext_next.2 (.inr ⟨h.1, h.2, State.reply_curves _ _ _⟩)
  · exact everyNext_next.2 (.inl rfl)

/-- Every command keeps the fills of the curves in range. -/
theorem exec_keeps_fillsInRange (c : Instr) {s : State} (h : s.curves.FillsInRange) :
    EveryNext (fun t => t.curves.FillsInRange) (exec c s) := by
  by_cases hreset : ∃ station speed, c = .deviceReset station speed
  · obtain ⟨station, speed, rfl⟩ := hreset
    exact everyNext_next.2 ⟨fun e he => absurd he List.not_mem_nil, fun e he => absurd he List.not_mem_nil⟩
  by_cases hexchange : c = .bankExchange
  · subst hexchange
    intro t ht
    show t.curves.FillsInRange
    rcases execBankExchange_curves s t ht with rfl | ⟨-, -, e⟩
    · exact h
    · rw [e]
      exact h
  by_cases hload : c = .curveLoad
  · subst hload
    intro t ht
    show t.curves.FillsInRange
    rcases execCurveLoad_curves s t ht with e | ⟨-, n, v, e, hv⟩
    · rwa [e]
    · rw [e]
      exact h.setSlot _ _ hv
  refine exec_keeps_curves (P := CurveStore.FillsInRange) (fun c bank n w hc => hc.setSlot bank n ?_) c
    (fun a b e => hreset ⟨a, b, e⟩) hexchange hload h
  rw [Slot.tested_points]
  exact hc.slot bank n

theorem State.ReaderStep.sound {s t : State} (h : s.ReaderStep t) (hreader : s.reader.sound = true)
    (hbins : ∀ e ∈ t.table.bins, e.2.Sound) (hcurves : s.curves.FillsInRange) : t.reader.sound = true := by
  have hbin (n : Nat) : (t.bin n).Sound := Table.get_of_forall Bin.sound_reset hbins n
  cases h with
  | same e => rwa [e]
  | idle e => rw [e]; rfl
  | fetched taken e => rw [e]; rfl
  | outOfOrder taken generation run e hverdict =>
    rw [e]
    simpa [ReadingUnit.sound] using judgeSequence_outOfOrder_le hverdict
  | accepted a e _ hrecord hfill _ hverdict =>
    obtain ⟨-, -, -, -, -, hfiltered, -, -, -, -, hgap⟩ := (hbin a.taken.reading.bin).fill
    rw [← hfill] at hfiltered hgap
    rw [e]
    simp only [ReadingUnit.sound, Bool.and_eq_true, decide_eq_true_eq]
    exact ⟨⟨hrecord ▸ (hbin _).record, hfiltered⟩, judgeSequence_accepted_le hgap hverdict⟩
  | held a cause hbefore e =>
    rw [hbefore] at hreader
    rw [e]
    simp only [ReadingUnit.sound, Bool.and_eq_true, decide_eq_true_eq] at hreader ⊢
    exact ⟨hreader.1.1, hreader.2⟩
  | computed a drop time temperature hbefore e =>
    rw [hbefore] at hreader
    rw [e]
    exact computeFill_sound hreader (hcurves.slot _ _) drop time temperature

/-- Every command keeps every bin sound, and all that may reach one. -/
theorem exec_keeps_binsSound (c : Instr) {s : State} (h : s.binsSound) : EveryNext State.binsSound (exec c s) := by
  obtain ⟨hbins, hreader, hstage, hcurves⟩ := h
  have hsound : ∀ e ∈ s.table.bins, e.2.Sound := fun e he =>
    have ⟨hfill, hrecord, hgeneration⟩ := hbins e he
    ⟨hfill, hrecord, hgeneration⟩
  intro t ht
  have hsound' := exec_keeps_sound c hsound hreader hstage t ht
  exact ⟨fun e he => ⟨(hsound' e he).fill, (hsound' e he).record, (hsound' e he).generation⟩,
    (exec_readerStep c t ht).sound hreader hsound' hcurves, exec_keeps_stageSound c hstage t ht,
    exec_keeps_fillsInRange c hcurves t ht⟩

/-! ## Litres -/

/-- The counted litres of every listed bin are those of its filtered fill and its record (R23, R70). -/
def Bin.LitresFit (b : Bin) : Prop := b.fill.countedLitres = b.fill.filtered.getD 0 * b.record.capacity / 1000

theorem Bin.litresFit_of_empty {b : Bin} (hfiltered : b.fill.filtered = none) (hlitres : b.fill.countedLitres = 0) :
    b.LitresFit := by
  unfold Bin.LitresFit
  simp [hfiltered, hlitres]

/-- Every bin keeps the record and the generation that it has in a state. -/
def State.SameIdentity (s : State) (bins : Table Bin) : Prop :=
  ∀ n, (Table.get Bin.reset n bins).record = (s.bin n).record ∧ (Table.get Bin.reset n bins).generation = (s.bin n).generation

section Identity

variable {s : State} {n : Nat} {b b' : Bin}

/-- A write of a Fill State leaves the record and the generation. -/
theorem State.fillWritten_identity (h : s.fillWritten n b b') : b'.record = b.record ∧ b'.generation = b.generation := by
  rcases h with ⟨hrecord, hgeneration, _⟩ | ⟨_, _, _, _, _, _, rfl⟩ | ⟨_, _, _, _, _, _, _, _, rfl⟩ | ⟨_, rfl⟩ | ⟨_, rfl⟩
  · exact ⟨hrecord, hgeneration⟩
  · exact ⟨rfl, rfl⟩
  · exact ⟨rfl, rfl⟩
  · exact ⟨rfl, rfl⟩
  · exact ⟨rfl, rfl⟩

theorem State.SameIdentity.set {bins : Table Bin} (h : s.SameIdentity bins)
    (hb : b.record = (Table.get Bin.reset n bins).record ∧ b.generation = (Table.get Bin.reset n bins).generation) :
    s.SameIdentity (Table.set Bin.reset n b bins) := by
  intro m
  rw [Table.get_set]
  split
  · next e =>
    subst e
    exact ⟨hb.1.trans (h m).1, hb.2.trans (h m).2⟩
  · exact h m

theorem Bin.cleared_reset (now : Nat) : Bin.reset.cleared now = Bin.reset := rfl

theorem State.sameIdentity_cleared (hrising : Table.rising none s.table.bins = true) (now : Nat) :
    s.SameIdentity (Table.mapEntries Bin.reset (Bin.cleared now) s.table.bins) := by
  intro m
  rw [Table.get_mapEntries _ _ (Bin.cleared_reset now) m hrising]
  exact ⟨rfl, rfl⟩

/-- Every command but a device reset and the load grant keeps every bin's record and generation. -/
theorem exec_keeps_identity (c : Instr) (hrising : Table.rising none s.table.bins = true)
    (hreset : ∀ station speed, c ≠ .deviceReset station speed) (hload : ∀ wear, c ≠ .loadGrant wear) :
    EveryNext (fun t => s.SameIdentity t.table.bins) (exec c s) :=
  exec_keeps_bins_of (P := s.SameIdentity) (R := s.fillWritten) c hreset (fun hc => exec_fillTraffic s hc hload)
    (fun _ _ _ h hwritten => h.set (State.fillWritten_identity hwritten)) (State.sameIdentity_cleared hrising s.now)
    fun _ => ⟨rfl, rfl⟩

theorem State.load_bins (u : State) (n : Nat) (record : BinRecord) (poison : Bool) (finding : Finding) :
    (u.load n record poison finding).table.bins
      = Table.set Bin.reset n (loadedBin record poison finding u.now (u.bin n)) u.table.bins := by
  unfold State.load
  dsimp only
  rw [show BinTable.bins (State.table (State.reply _ _ _)) = _ from State.reply_leaves _ _ _ .bins (by decide),
    show BinTable.bins (State.table (List.foldl _ _ _)) = _ from State.foldl_notify_leaves _ _ _ _ _ _ _ .bins (by decide),
    State.postChange_table]
  rfl

/-- The bins after the load grant: nothing loaded, or the loaded bin in its place, over bins that an access opened. -/
theorem execLoadGrant_bins (wear : Wear) (s : State) : EveryNext (fun t => t = s
    ∨ ∃ n record poison finding u, s.mgmt.stage = .load n record poison ∧ s.traffic Bin.accessed u
      ∧ t.table.bins = Table.set Bin.reset n (loadedBin record poison finding u.now (u.bin n)) u.table.bins)
    (execLoadGrant wear s) := by
  unfold execLoadGrant
  split
  · next n record poison hstage =>
    split
    · exact everyNext_next.2 (.inr ⟨n, record, poison, _, _, hstage, s.traffic_read .managementUnit .load false n wear,
        State.load_bins _ _ _ _ _⟩)
    · exact everyNext_next.2 (.inl rfl)
  · exact everyNext_next.2 (.inl rfl)

/-- A property of the bins that every opening of an access keeps. -/
theorem Traffic.bins_induction {P : Table Bin → Prop} {R : Nat → Bin → Bin → Prop} {bins bins' : Table Bin}
    {r r' : Reporting} (h : Traffic R bins r bins' r')
    (hwrite : ∀ n b bins, P bins → R n (Table.get Bin.reset n bins) b → P (Table.set Bin.reset n b bins)) (hbins : P bins) :
    P bins' := by
  induction h with
  | start => exact hbins
  | conditions _ _ _ ih => exact ih
  | write _ n b _ _ hR ih => exact hwrite n b _ ih hR
  | notice _ _ _ _ ih => exact ih

theorem State.sameIdentity_of_accessed {u : State} (h : s.traffic Bin.accessed u) : s.SameIdentity u.table.bins :=
  Traffic.bins_induction h (fun _ _ _ hbins hb => hbins.set ⟨hb.1, hb.2.1⟩) fun _ => ⟨rfl, rfl⟩

end Identity

section Litres

variable {s t : State} {n : Nat} {b b' : Bin}

theorem Bin.litresFit_reset : Bin.reset.LitresFit := Bin.litresFit_of_empty rfl rfl

theorem Bin.LitresFit.accessed (h : b.LitresFit) (hb : Bin.accessed n b b') : b'.LitresFit := by
  obtain ⟨hrecord, -, e | ⟨-, e⟩⟩ := hb
  · unfold Bin.LitresFit
    rw [e, hrecord]
    exact h
  · exact Bin.litresFit_of_empty (by rw [e]; rfl) (by rw [e]; rfl)

/-- A write of a Fill State keeps the litres those of the record: an application finds the record that its reading kept. -/
theorem Bin.LitresFit.fillWritten (h : b.LitresFit) (hfit : s.reader.litresFit = true)
    (hkept : ∀ a ∈ s.reader.accepted, a.taken.reading.bin = n → b.generation = a.generation → b.record = a.record)
    (hb : s.fillWritten n b b') : b'.LitresFit := by
  rcases hb with haccess | ⟨_, _, _, _, _, _, rfl⟩ | ⟨a, result, now, reception, happly, hn, hgeneration, -, rfl⟩
    | ⟨_, rfl⟩ | ⟨_, rfl⟩
  · exact h.accessed haccess
  · exact h
  · rw [happly] at hfit hkept
    cases result with
    | held cause => exact h
    | computed raw filtered emptying litres =>
      have hrecord := hkept a rfl hn.symm hgeneration
      simp only [ReadingUnit.litresFit, beq_iff_eq] at hfit
      unfold Bin.LitresFit
      rw [hrecord]
      exact hfit
  · exact h
  · exact h

theorem Bin.litresFit_loaded (record : BinRecord) (poison : Bool) (finding : Finding) (now : Nat) (old : Bin) :
    (loadedBin record poison finding now old).LitresFit := by
  have hempty {f : FillState} (hf : loadedFill record finding now old = f) (hfiltered : f.filtered = none)
      (hlitres : f.countedLitres = 0) : (loadedBin record poison finding now old).LitresFit :=
    Bin.litresFit_of_empty ((congrArg FillState.filtered hf).trans hfiltered)
      ((congrArg FillState.countedLitres hf).trans hlitres)
  by_cases hservice : (!record.inService) = true
  · exact hempty (if_pos hservice) rfl rfl
  by_cases hkeeps : keepsFill record finding old = true
  · have hf : loadedFill record finding now old = old.fill.kept record := (if_neg hservice).trans (if_pos hkeeps)
    cases hvalue : old.fill.filtered with
    | none => exact hempty hf hvalue (by unfold FillState.kept; rw [hvalue])
    | some filtered =>
      show (loadedFill record finding now old).countedLitres = _ * record.capacity / 1000
      rw [show (loadedBin record poison finding now old).fill = loadedFill record finding now old from rfl, hf]
      unfold FillState.kept
      rw [hvalue]
      rfl
  · exact hempty ((if_neg hservice).trans (if_neg hkeeps)) rfl rfl

theorem Bin.litresFit_cleared (h : b.LitresFit) (now : Nat) : (b.cleared now).LitresFit := by
  by_cases hactive : b.fill.service = .active
  · have hf : (b.cleared now).fill
        = { FillState.reset with service := .active, lastHeard := now, countedZone := b.fill.countedZone } := if_pos hactive
    exact Bin.litresFit_of_empty (by rw [hf]; rfl) (by rw [hf]; rfl)
  · have hf : (b.cleared now).fill = b.fill := if_neg hactive
    unfold Bin.LitresFit
    rw [hf]
    exact h

/-- What the step leaves the Reading Unit with agrees with the bin, when what it had does. -/
theorem State.ReaderStep.litres (h : s.ReaderStep t) (hfit : s.reader.litresFit = true)
    (hkept : ∀ a ∈ s.reader.accepted, (t.bin a.taken.reading.bin).generation = a.generation →
      (t.bin a.taken.reading.bin).record = a.record) :
    (∀ a ∈ t.reader.accepted, (t.bin a.taken.reading.bin).generation = a.generation →
      (t.bin a.taken.reading.bin).record = a.record) ∧ t.reader.litresFit = true := by
  cases h with
  | same e =>
    rw [e]
    exact ⟨hkept, hfit⟩
  | idle e | fetched _ e | outOfOrder _ _ _ e _ =>
    rw [e]
    exact ⟨fun a ha => absurd ha (Option.not_mem_none a), rfl⟩
  | accepted a e _ hrecord _ _ _ =>
    rw [e]
    refine ⟨fun a' ha' _ => ?_, rfl⟩
    obtain rfl : a = a' := Option.some.inj ha'
    exact hrecord.symm
  | held a _ hbefore e =>
    rw [hbefore] at hkept
    rw [e]
    exact ⟨hkept, rfl⟩
  | computed a _ _ _ hbefore e =>
    rw [hbefore] at hkept
    rw [e]
    exact ⟨hkept, beq_self_eq_true _⟩

/-- Every command keeps the litres in agreement with the records. -/
theorem exec_keeps_litresAgree (c : Instr) (hrising : Table.rising none s.table.bins = true) (hapart : s.generationsApart)
    (h : s.litresAgree) : EveryNext State.litresAgree (exec c s) := by
  obtain ⟨hbins, hkept, hfit⟩ := h
  intro t ht
  have hreader := exec_readerStep c t ht
  by_cases hreset : ∃ station speed, c = .deviceReset station speed
  · obtain ⟨station, speed, rfl⟩ := hreset
    obtain rfl := Host.Outcome.next.inj ht
    exact ⟨fun e he => absurd he List.not_mem_nil, fun a ha => absurd ha (Option.not_mem_none a), rfl⟩
  by_cases hload : ∃ wear, c = .loadGrant wear
  · obtain ⟨wear, rfl⟩ := hload
    rcases execLoadGrant_bins wear s t ht with rfl | ⟨n, record, poison, finding, u, hstage, htraffic, hafter⟩
    · exact ⟨hbins, hkept, hfit⟩
    have hidentity := State.sameIdentity_of_accessed htraffic
    have hopened : ∀ e ∈ u.table.bins, e.2.LitresFit :=
      Traffic.bins_induction (P := fun bins => ∀ e ∈ bins, e.2.LitresFit) htraffic (fun m b bins hb haccess e he => by
        rcases Table.mem_set he with rfl | he
        · exact (Table.get_of_forall Bin.litresFit_reset hb m).accessed haccess
        · exact hb e he) hbins
    have hlitres : ∀ e ∈ t.table.bins, e.2.LitresFit := fun e he => by
      rw [hafter] at he
      rcases Table.mem_set he with rfl | he
      · exact Bin.litresFit_loaded _ _ _ _ _
      · exact hopened e he
    refine ⟨hlitres, hreader.litres hfit fun a ha hgeneration => ?_⟩
    have hbin (m : Nat) : t.bin m = if m = n then loadedBin record poison finding u.now (u.bin n) else u.bin m := by
      rw [State.bin, hafter, Table.get_set]
      rfl
    rw [hbin] at hgeneration ⊢
    split at hgeneration
    · next hn =>
      refine absurd hgeneration.symm ?_
      have hne := hapart a ha (n, record) (by rw [hstage]; rfl) hn
      rwa [← (hidentity n).2] at hne
    · next hn =>
      rw [if_neg hn]
      exact ((hidentity _).1).trans (hkept a ha ((hidentity _).2.symm.trans hgeneration))
  · have hall := exec_keeps_bins_of (P := fun bins => (∀ e ∈ bins, e.2.LitresFit) ∧ s.SameIdentity bins) (R := s.fillWritten)
      c (fun a b e => hreset ⟨a, b, e⟩) (fun hc => exec_fillTraffic s hc fun wear e => hload ⟨wear, e⟩) ?hwrite ?hclear
      ⟨hbins, fun _ => ⟨rfl, rfl⟩⟩ t ht
    case hwrite =>
      rintro n b bins ⟨hfits, hidentity⟩ hwritten
      refine ⟨fun e he => ?_, hidentity.set (State.fillWritten_identity hwritten)⟩
      rcases Table.mem_set he with rfl | he
      · refine (Table.get_of_forall Bin.litresFit_reset hfits n).fillWritten hfit (fun a ha hn hgeneration => ?_) hwritten
        subst hn
        exact ((hidentity _).1).trans (hkept a ha ((hidentity _).2.symm.trans hgeneration))
      · exact hfits e he
    case hclear =>
      refine ⟨fun e he => ?_, State.sameIdentity_cleared hrising _⟩
      obtain ⟨x, hx, rfl⟩ := List.mem_map.1 (List.mem_filter.1 he).1
      exact Bin.litresFit_cleared (hbins x hx) _
    obtain ⟨hlitres, hidentity⟩ := hall
    refine ⟨hlitres, hreader.litres hfit fun a ha hgeneration => ?_⟩
    exact ((hidentity _).1).trans (hkept a ha ((hidentity _).2.symm.trans hgeneration))

end Litres

end Sys2Proof.Machine

/-! Every ACTIVE bin names a curve of the active bank, so that no step stops for want of a curve (R19, R31, R35, R37). -/

namespace Sys2Proof.Machine

/-! ## The curves -/

/-- The same points in every slot, and the same active bank. -/
structure CurveStore.Same (c c' : CurveStore) : Prop where
  active : c'.active = c.active
  points : ∀ bank n, (c'.slot bank n).points = (c.slot bank n).points

theorem CurveStore.Same.refl (c : CurveStore) : c.Same c := ⟨rfl, fun _ _ => rfl⟩

/-- A slot access leaves every curve (R29). -/
theorem CurveStore.Same.access {c c' : CurveStore} (h : c.Same c') (bank : Bank) (n : Nat) (w : Wear) :
    c.Same (c'.setSlot bank n ((c'.slot bank n).tested w)) where
  active := (CurveStore.setSlot_active _ _ _ _).trans h.active
  points := fun other m => by
    rw [CurveStore.setSlot_slot]
    split
    · next e =>
      rw [e.1, e.2, Slot.tested_points]
      exact h.points bank n
    · exact h.points other m

theorem exec_keeps_sameCurves (c : Instr) {s : State} (hreset : ∀ station speed, c ≠ .deviceReset station speed)
    (hexchange : c ≠ .bankExchange) (hload : c ≠ .curveLoad) : EveryNext (fun t => s.curves.Same t.curves) (exec c s) :=
  exec_keeps_curves (P := s.curves.Same) (fun _ bank n w h => h.access bank n w) c hreset hexchange hload (.refl _)

section Named

variable {s t : State}

theorem CurveStore.Same.holdsCurve (h : s.curves.Same t.curves) (bank : Bank) (record : BinRecord) :
    t.holdsCurve bank record ↔ s.holdsCurve bank record := by
  unfold State.holdsCurve
  rw [h.points]

/-! ## The ACTIVE bins -/

theorem Table.get_of_mem {α : Type} (reset : α) {t : Table α} (h : Table.rising none t = true) {e : Nat × α} (he : e ∈ t) :
    Table.get reset e.1 t = e.2 := by
  induction t with
  | nil => exact absurd he List.not_mem_nil
  | cons x rest ih =>
    have hrest := Table.rising_cons h
    rcases List.mem_cons.1 he with rfl | he
    · exact if_pos rfl
    · have hlow := Table.rising_some hrest e he
      exact (if_neg (Nat.ne_of_lt hlow)).trans (ih (Table.rising_weaken hrest none nofun) he)

theorem Table.mem_of_active {n : Nat} {bins : Table Bin} (h : (Table.get Bin.reset n bins).fill.service = .active) :
    (n, Table.get Bin.reset n bins) ∈ bins := by
  rcases Table.get_mem Bin.reset n bins with e | hmem
  · rw [e] at h
    exact Service.noConfusion h
  · exact hmem

/-- Only an ACTIVE bin is ACTIVE after a write of its Fill State. -/
theorem State.fillWritten_active {n : Nat} {b b' : Bin} (h : s.fillWritten n b b') (hactive : b'.fill.service = .active) :
    b.fill.service = .active := by
  rcases h with ⟨-, -, e | ⟨hbefore, -⟩⟩ | ⟨_, _, _, _, _, hbefore, _⟩ | ⟨_, _, _, _, _, _, _, hbefore, _⟩ | ⟨_, rfl⟩
    | ⟨hbefore, _⟩
  · rwa [e] at hactive
  · exact hbefore
  · exact hbefore
  · exact hbefore
  · exact hactive
  · exact hbefore

theorem loadedBin_active {record : BinRecord} {poison : Bool} {finding : Finding} {now : Nat} {old : Bin}
    (h : (loadedBin record poison finding now old).fill.service = .active) : record.inService = true := by
  refine Decidable.byContradiction fun hout => ?_
  have hfill : (loadedBin record poison finding now old).fill = FillState.outOfService now := if_pos (by simpa using hout)
  rw [hfill] at h
  exact Service.noConfusion h

theorem Bin.cleared_service (now : Nat) (b : Bin) : (b.cleared now).fill.service = b.fill.service := by
  unfold Bin.cleared FillState.cleared
  dsimp only
  split
  · next hactive => exact hactive.symm
  · rfl

/-- What holds of the number and the record of every ACTIVE bin, and of a record that waits to be loaded in service, holds
of every ACTIVE bin after the command. -/
theorem exec_keeps_active {Q : Nat → BinRecord → Prop} (c : Instr)
    (h : ∀ e ∈ s.table.bins, e.2.fill.service = .active → Q e.1 e.2.record)
    (hload : ∀ n record poison, s.mgmt.stage = .load n record poison → record.inService = true → Q n record) :
    EveryNext (fun t => ∀ e ∈ t.table.bins, e.2.fill.service = .active → Q e.1 e.2.record) (exec c s) := by
  by_cases hreset : ∃ station speed, c = .deviceReset station speed
  · obtain ⟨station, speed, rfl⟩ := hreset
    exact everyNext_next.2 fun e he => absurd he List.not_mem_nil
  refine exec_keeps_bins (P := fun bins => ∀ e ∈ bins, e.2.fill.service = .active → Q e.1 e.2.record) c
    (fun a b e => hreset ⟨a, b, e⟩) ?_ ?_ h
  · intro n b bins hb hwritten e he hactive
    rcases Table.mem_set he with rfl | he
    · rcases hwritten with hfill | ⟨record, poison, finding, now, hstage, rfl⟩
      · rw [show (n, b).2.record = _ from (State.fillWritten_identity hfill).1]
        have hbefore := State.fillWritten_active hfill hactive
        exact hb _ (Table.mem_of_active hbefore) hbefore
      · exact hload n record poison hstage (loadedBin_active hactive)
    · exact hb e he hactive
  · intro e he hactive
    obtain ⟨x, hx, rfl⟩ := List.mem_map.1 (List.mem_filter.1 he).1
    exact h x hx ((Bin.cleared_service _ _).symm.trans hactive)

/-! ## The invariant, command by command -/

/-- A step that leaves the curves keeps them named. -/
theorem exec_keeps_curvesNamed_of_same (c : Instr) (hsame : s.curves.Same t.curves) (ht : exec c s = .next t)
    (hbins : Table.wf Bin.reset s.table.bins = true) (h : s.curvesNamed) : t.curvesNamed := by
  obtain ⟨hactive, hreader, hload, hscanned⟩ := h
  have hwf : Table.wf Bin.reset t.table.bins = true := exec_keeps_binsCanonical c hbins t ht
  have hactive' : ∀ e ∈ t.table.bins, e.2.fill.service = .active → e.1 ≤ 4095 ∧ t.holdsCurve t.curves.active e.2.record := by
    have hkept := exec_keeps_active (Q := fun n r => n ≤ 4095 ∧ s.holdsCurve s.curves.active r) c hactive
      (fun n record poison hstage hservice => by
        obtain ⟨hn, hholds⟩ := hload (n, record) (by rw [hstage]; rfl)
        exact ⟨hn, hholds hservice⟩) t ht
    intro e he hservice
    rw [hsame.active, hsame.holdsCurve]
    exact hkept e he hservice
  have hscanned' : ∀ n ∈ s.mgmt.stage.scanned, ∀ e ∈ t.table.bins, e.2.fill.service = .active → e.1 < n →
      t.holdsCurve t.curves.active.other e.2.record := by
    intro n hn e he hservice hlow
    have hkept := exec_keeps_active (Q := fun m r => m < n → s.holdsCurve s.curves.active.other r) c (hscanned n hn)
      (fun m record poison hstage _ _ => by rw [hstage] at hn; exact absurd hn (Option.not_mem_none n)) t ht
    rw [hsame.active, hsame.holdsCurve]
    exact hkept e he hservice hlow
  refine ⟨hactive', ?reader, ?load, ?scanned⟩
  case reader =>
    have hbefore : ∀ a ∈ s.reader.accepted, t.holdsCurve t.curves.active a.record := fun a ha => by
      rw [hsame.active, hsame.holdsCurve]
      exact hreader a ha
    cases exec_readerStep c t ht with
    | same e => rwa [e]
    | idle e | fetched _ e | outOfOrder _ _ _ e _ =>
      rw [e]
      exact fun a ha => absurd ha (Option.not_mem_none a)
    | accepted a e hservice hrecord _ _ _ =>
      rw [e]
      intro a' ha'
      obtain rfl : a = a' := Option.some.inj ha'
      rw [hrecord]
      exact (hactive' _ (Table.mem_of_active hservice) hservice).2
    | held a _ hcompute e =>
      rw [hcompute] at hbefore
      rw [e]
      exact hbefore
    | computed a _ _ _ hcompute e =>
      rw [hcompute] at hbefore
      rw [e]
      exact hbefore
  case load =>
    have hbefore : ∀ load ∈ s.mgmt.stage.loading,
        load.1 ≤ 4095 ∧ (load.2.inService = true → t.holdsCurve t.curves.active load.2) := fun load hl => by
      rw [hsame.active, hsame.holdsCurve]
      exact hload load hl
    cases exec_stageStep c s t ht with
    | same e => rwa [e]
    | calm hcalm =>
      rw [hcalm.1]
      exact fun a ha => absurd ha (Option.not_mem_none a)
    | load _ hchecked =>
      obtain ⟨n, record, poison, e, hn, -, hholds⟩ := hchecked
      rw [e]
      intro load hl
      obtain rfl : (n, record) = load := Option.some.inj hl
      rw [hsame.active, hsame.holdsCurve]
      exact ⟨hn, hholds⟩
    | swapBegun e =>
      rw [e]
      exact fun a ha => absurd ha (Option.not_mem_none a)
    | scanned n _ hstage _ =>
      rcases hstage with e | ⟨-, e⟩ <;> rw [e] <;> exact fun a ha => absurd ha (Option.not_mem_none a)
  case scanned =>
    cases exec_stageStep c s t ht with
    | same e => rwa [e]
    | calm hcalm =>
      rw [hcalm.2]
      exact fun a ha => absurd ha (Option.not_mem_none a)
    | load _ hchecked =>
      obtain ⟨n, record, poison, e, -⟩ := hchecked
      rw [e]
      exact fun a ha => absurd ha (Option.not_mem_none a)
    | swapBegun e =>
      rw [e]
      intro n hn e _ _ hlow
      obtain rfl : 0 = n := Option.some.inj hn
      exact absurd hlow (Nat.not_lt_zero _)
    | scanned n hbefore hstage hpresent =>
      have hnext : t.mgmt.stage.scanned = some (n + 1) := by
        rcases hstage with e | ⟨hn, e⟩
        · rw [e]
          rfl
        · rw [e, hn]
          rfl
      rw [hnext]
      intro m hm e he hservice hlow
      obtain rfl : n + 1 = m := Option.some.inj hm
      rcases Nat.lt_succ_iff_lt_or_eq.1 hlow with hlow | hn
      · exact hscanned' n (by rw [hbefore]; rfl) e he hservice hlow
      · have hbin : t.bin n = e.2 := by
          rw [← hn]
          exact Table.get_of_mem Bin.reset ((Table.wf_iff _ _).1 hwf).1 he
        rw [← hbin]
        exact hpresent (by rw [hbin]; exact hservice)

theorem Bank.other_other (bank : Bank) : bank.other.other = bank := by cases bank <;> rfl

theorem Bank.other_ne (bank : Bank) : bank.other ≠ bank := by cases bank <;> exact nofun

/-- The exchange of the banks, once every bin has been scanned, keeps the curves named (R37). -/
theorem execBankExchange_keeps_curvesNamed (h : s.curvesNamed) (ht : exec .bankExchange s = .next t) : t.curvesNamed := by
  rcases execBankExchange_curves s t ht with rfl | ⟨hstage, hreader, hcurves⟩
  · exact h
  obtain ⟨hactive, -, -, hscanned⟩ := h
  have hbins : t.table.bins = s.table.bins := exec_agrees (c := .bankExchange) (p := .bins) ht (by decide)
  have hidle : t.reader = .idle := (exec_agrees (c := .bankExchange) (p := .reader) ht (by decide)).trans hreader
  have hholds (bank : Bank) (record : BinRecord) : t.holdsCurve bank record ↔ s.holdsCurve bank record := by
    unfold State.holdsCurve
    rw [hcurves]
    rfl
  have hstage' : t.mgmt.stage.loading = none
      ∧ ∀ n ∈ t.mgmt.stage.scanned, n = 4096 := by
    rcases exec_stage_calms (c := .bankExchange) id s t ht with e | ⟨hl, hs⟩
    · rw [e, hstage]
      exact ⟨rfl, fun n hn => (Option.some.inj hn).symm⟩
    · rw [hs]
      exact ⟨hl, fun n hn => absurd hn (Option.not_mem_none n)⟩
  have hactive' : t.curves.active = s.curves.active.other := by rw [hcurves]
  refine ⟨fun e he hservice => ?_, ?_, ?_, fun n hn e he hservice _ => ?_⟩
  · rw [hbins] at he
    rw [hactive', hholds]
    obtain ⟨hn, -⟩ := hactive e he hservice
    exact ⟨hn, hscanned 4096 (by rw [hstage]; rfl) e he hservice (Nat.lt_succ_of_le hn)⟩
  · rw [hidle]
    exact fun a ha => absurd ha (Option.not_mem_none a)
  · rw [hstage'.1]
    exact fun a ha => absurd ha (Option.not_mem_none a)
  · rw [hbins] at he
    rw [hactive', hholds, Bank.other_other]
    exact (hactive e he hservice).2

/-- A curve loaded into the load bank leaves the curves of the active bank named. -/
theorem execCurveLoad_keeps_curvesNamed (hbins : Table.wf Bin.reset s.table.bins = true) (h : s.curvesNamed)
    (ht : exec .curveLoad s = .next t) : t.curvesNamed := by
  rcases execCurveLoad_curves s t ht with hcurves | ⟨hstage, n, v, hcurves, -⟩
  · exact exec_keeps_curvesNamed_of_same .curveLoad (by rw [hcurves]; exact .refl _) ht hbins h
  obtain ⟨hactive, hreader, -, -⟩ := h
  have hbins : t.table.bins = s.table.bins := exec_agrees (c := .curveLoad) (p := .bins) ht (by decide)
  have hsame : t.reader = s.reader := exec_agrees (c := .curveLoad) (p := .reader) ht (by decide)
  have hholds (record : BinRecord) : t.holdsCurve t.curves.active record ↔ s.holdsCurve s.curves.active record := by
    unfold State.holdsCurve
    rw [hcurves, CurveStore.setSlot_active, CurveStore.setSlot_slot, if_neg fun e => Bank.other_ne _ e.1.symm]
  refine ⟨fun e he hservice => ?_, fun a ha => ?_, ?_, ?_⟩
  · rw [hholds]
    exact hactive e (hbins ▸ he) hservice
  · rw [hholds]
    exact hreader a (hsame ▸ ha)
  · rw [hstage]
    exact fun a ha => absurd ha (Option.not_mem_none a)
  · rw [hstage]
    exact fun a ha => absurd ha (Option.not_mem_none a)

/-- Every command keeps the curves named. -/
theorem exec_keeps_curvesNamed (c : Instr) (hbins : Table.wf Bin.reset s.table.bins = true) (h : s.curvesNamed) :
    EveryNext State.curvesNamed (exec c s) := by
  intro t ht
  by_cases hreset : ∃ station speed, c = .deviceReset station speed
  · obtain ⟨station, speed, rfl⟩ := hreset
    obtain rfl := Host.Outcome.next.inj ht
    exact ⟨fun e he => absurd he List.not_mem_nil, fun a ha => absurd ha (Option.not_mem_none a),
      fun a ha => absurd ha (Option.not_mem_none a), fun a ha => absurd ha (Option.not_mem_none a)⟩
  by_cases hexchange : c = .bankExchange
  · subst hexchange
    exact execBankExchange_keeps_curvesNamed h ht
  by_cases hload : c = .curveLoad
  · subst hload
    exact execCurveLoad_keeps_curvesNamed hbins h ht
  exact exec_keeps_curvesNamed_of_same c
    (exec_keeps_sameCurves c (fun a b e => hreset ⟨a, b, e⟩) hexchange hload t ht) ht hbins h

/-- With the curves named, every command answers a next state. -/
theorem exec_answers_of_curvesNamed (c : Instr) (h : s.curvesNamed) : ∃ t, exec c s = .next t := by
  by_cases hc : ∃ wear, c = .fillComputation wear
  · obtain ⟨wear, rfl⟩ := hc
    rcases execFillComputation_answers wear s with ht | ⟨-, a, time, hreader, -, habsent⟩
    · exact ht
    · exact absurd (by simpa [Slot.present] using habsent) (h.2.1 a (by rw [hreader]; rfl))
  · exact exec_answers c s fun wear e => hc ⟨wear, e⟩

end Named

/-- Settles O8: each of the three claims is kept by every command, and with the curves named no command faults. -/
theorem stepKeepsBinsSound : Obligations.StepKeepsBinsSound := by
  refine ⟨fun s t hs h => ?_, fun s t hstores hapart hs h => ?_, fun s hstores hs => ?_⟩
  · exact step_keeps (P := State.binsSound) (fun _ _ h => h) (fun c s t hs => exec_keeps_binsSound c hs t) hs h
  · unfold step at h
    split at h
    · obtain rfl := Host.Outcome.next.inj h
      exact hs
    · next c rest _ =>
      exact exec_keeps_litresAgree c (s := { s with pending := rest }) ((Table.wf_iff _ _).1 hstores.1).1 hapart hs t h
  · unfold step
    split
    · exact ⟨s, rfl, hs⟩
    · next c rest _ =>
      obtain ⟨t, ht⟩ := exec_answers_of_curvesNamed (s := { s with pending := rest }) c hs
      exact ⟨t, ht, exec_keeps_curvesNamed (s := { s with pending := rest }) c hstores.1 hs t ht⟩

end Sys2Proof.Machine

/-! The zone tallies in agreement with the Bin Table, kept by every step (R90). -/

namespace Sys2Proof.Machine

/-! ## A tally against a list of contributions -/

/-- The tally counts the contributions of a list; its reference is free. -/
structure Tally.Counts (t : Tally) (cs : List Contribution) : Prop where
  members : t.members = cs.length
  full : t.full = cs.countP (·.full)
  near : t.near = cs.countP (·.near)
  stale : t.stale = cs.countP (·.stale)
  fallen : t.fallen = cs.countP (·.fallen)
  fault : t.fault = cs.countP (·.fault)
  litres : t.litres = (cs.map (·.litres)).sum

section Counts

variable {t : Tally} {c : Contribution} {cs cs' : List Contribution}

theorem Tally.counts_zero : Tally.zero.Counts [] := ⟨rfl, rfl, rfl, rfl, rfl, rfl, rfl⟩

theorem Tally.Counts.perm (h : t.Counts cs) (hperm : cs.Perm cs') : t.Counts cs' where
  members := h.members.trans hperm.length_eq
  full := h.full.trans (hperm.countP_eq _)
  near := h.near.trans (hperm.countP_eq _)
  stale := h.stale.trans (hperm.countP_eq _)
  fallen := h.fallen.trans (hperm.countP_eq _)
  fault := h.fault.trans (hperm.countP_eq _)
  litres := h.litres.trans (hperm.map (·.litres)).sum_nat

theorem countP_cons_toNat (p : Contribution → Bool) (c : Contribution) (cs : List Contribution) :
    (c :: cs).countP p = cs.countP p + (p c).toNat := by
  rw [List.countP_cons]
  cases p c <;> rfl

theorem Tally.Counts.add (h : t.Counts cs) (c : Contribution) : (t.add c).Counts (c :: cs) := by
  obtain ⟨hmembers, hfull, hnear, hstale, hfallen, hfault, hlitres⟩ := h
  constructor <;> simp only [Tally.add, countP_cons_toNat, List.length_cons, List.map_cons, List.sum_cons, *]
  exact Nat.add_comm _ _

theorem Tally.Counts.remove (h : t.Counts (c :: cs)) : (t.remove c).Counts cs := by
  obtain ⟨hmembers, hfull, hnear, hstale, hfallen, hfault, hlitres⟩ := h
  simp only [countP_cons_toNat] at hfull hnear hstale hfallen hfault
  rw [List.length_cons] at hmembers
  rw [List.map_cons, List.sum_cons] at hlitres
  constructor <;> simp only [Tally.remove] <;> omega

theorem Tally.Counts.reference (h : t.Counts cs) (reference : Nat) :
    Tally.Counts { t with reference := reference } cs :=
  ⟨h.members, h.full, h.near, h.stale, h.fallen, h.fault, h.litres⟩

end Counts

/-! ## The contributions of the listed bins -/

/-- The contributions, of the listed bins, that count in a zone (R86). -/
def contributionsOf (zone : Nat) (bins : Table Bin) : List Contribution :=
  (bins.map fun e => e.2.fill.contribution).filter fun c => c.zone == some zone

/-- A contribution where it counts. -/
def Contribution.inZone (zone : Nat) (c : Contribution) : List Contribution := if c.zone = some zone then [c] else []

theorem contributionsOf_cons (zone : Nat) (e : Nat × Bin) (bins : Table Bin) :
    contributionsOf zone (e :: bins) = e.2.fill.contribution.inZone zone ++ contributionsOf zone bins := by
  unfold contributionsOf Contribution.inZone
  rw [List.map_cons, List.filter_cons]
  by_cases h : e.2.fill.contribution.zone = some zone <;> simp [h]

theorem Table.erase_of_above {α : Type} {key : Nat} {t : Table α} (h : ∀ e ∈ t, key < e.1) : Table.erase key t = t :=
  List.filter_eq_self.2 fun e he => by
    have := h e he
    simp
    omega

/-- The contributions of a zone are those of one bin and those of the rest. -/
theorem contributionsOf_perm (zone n : Nat) {bins : Table Bin} (h : Table.rising none bins = true) :
    (contributionsOf zone bins).Perm
      ((Table.get Bin.reset n bins).fill.contribution.inZone zone ++ contributionsOf zone (Table.erase n bins)) := by
  induction bins with
  | nil => exact List.Perm.refl _
  | cons e bins ih =>
    obtain ⟨k, b⟩ := e
    have hrest := Table.rising_cons h
    by_cases hk : k = n
    · subst hk
      have herase : Table.erase k ((k, b) :: bins) = bins := by
        rw [show Table.erase k ((k, b) :: bins) = Table.erase k bins by simp [Table.erase]]
        exact Table.erase_of_above (Table.rising_some hrest)
      rw [herase, contributionsOf_cons]
      simp [Table.get]
    · have herase : Table.erase n ((k, b) :: bins) = (k, b) :: Table.erase n bins := by simp [Table.erase, hk]
      rw [herase, contributionsOf_cons, contributionsOf_cons]
      have hget : Table.get Bin.reset n ((k, b) :: bins) = Table.get Bin.reset n bins := if_neg hk
      rw [hget]
      refine ((ih (Table.rising_weaken hrest none nofun)).append_left _).trans ?_
      rw [← List.append_assoc, ← List.append_assoc]
      exact List.perm_append_comm.append_right _

theorem Table.erase_insert {α : Type} (key : Nat) (value : α) (t : Table α) :
    Table.erase key (Table.insert key value t) = Table.erase key t := by
  induction t with
  | nil => simp [Table.insert, Table.erase]
  | cons e rest ih =>
    obtain ⟨k, v⟩ := e
    unfold Table.erase at ih ⊢
    by_cases hlow : key < k
    · simp [Table.insert, hlow]
    · by_cases hk : k = key
      · simp [Table.insert, hk]
      · simp [Table.insert, hlow, hk, ih]

theorem Table.erase_set {α : Type} [DecidableEq α] (reset value : α) (key : Nat) (t : Table α) :
    Table.erase key (Table.set reset key value t) = Table.erase key t := by
  unfold Table.set
  split
  · simp [Table.erase]
  · exact Table.erase_insert key value t

/-! ## The agreement -/

/-- The tallies of the zones count the contributions of the bins (R90). -/
structure TalliesAgree (bins : Table Bin) (r : Reporting) : Prop where
  binsRising : Table.rising none bins = true
  zonesRising : Table.rising none r.zones = true
  counts : ∀ z < 64, (r.tally z).Counts (contributionsOf z bins)

theorem State.talliesAgree_iff (s : State) : s.talliesAgree ↔ TalliesAgree s.table.bins s.report := by
  constructor
  · rintro ⟨hbins, hzones, hcounts⟩
    refine ⟨hbins, hzones, fun z hz => ?_⟩
    obtain ⟨hmembers, hfull, hnear, hstale, hfallen, hfault, hlitres⟩ := hcounts z hz
    exact ⟨hmembers, hfull, hnear, hstale, hfallen, hfault, hlitres⟩
  · rintro ⟨hbins, hzones, hcounts⟩
    refine ⟨hbins, hzones, fun z hz => ?_⟩
    obtain ⟨hmembers, hfull, hnear, hstale, hfallen, hfault, hlitres⟩ := hcounts z hz
    exact ⟨hmembers, hfull, hnear, hstale, hfallen, hfault, hlitres⟩

section Agreement

variable {r r' : Reporting} {bins : Table Bin}

theorem TalliesAgree.of_zones (h : TalliesAgree bins r) (hz : r'.zones = r.zones) : TalliesAgree bins r' where
  binsRising := h.binsRising
  zonesRising := hz ▸ h.zonesRising
  counts := fun z hlt => by
    unfold Reporting.tally
    rw [hz]
    exact h.counts z hlt

theorem Reporting.tally_changeTally (zone : Option Nat) (f : Tally → Tally) (r : Reporting) (z : Nat) :
    (r.changeTally zone f).tally z = if zone = some z then f (r.tally z) else r.tally z := by
  cases zone with
  | none => simp [Reporting.changeTally]
  | some y =>
    simp only [Reporting.changeTally, Reporting.setTally_tally, Option.some.injEq]
    by_cases h : z = y
    · simp [h]
    · simp [h, Ne.symm h]

/-- A contribution removed and another added: each zone's tally counts what then counts in it (R91). -/
theorem Reporting.counts_moveContribution (old new : Contribution) (r : Reporting) (z : Nat) {rest : List Contribution}
    (h : (r.tally z).Counts (old.inZone z ++ rest)) :
    ((r.moveContribution old new).tally z).Counts (new.inZone z ++ rest) := by
  have hremoved : ((r.changeTally old.zone (Tally.remove old)).tally z).Counts rest := by
    rw [Reporting.tally_changeTally]
    unfold Contribution.inZone at h
    split
    · next hz =>
      rw [if_pos hz] at h
      exact h.remove
    · next hz => rwa [if_neg hz] at h
  unfold Reporting.moveContribution Contribution.inZone
  rw [Reporting.tally_changeTally]
  split
  · exact hremoved.add new
  · exact hremoved

theorem Reporting.rising_changeTally (h : Table.rising none r.zones = true) (zone : Option Nat) (f : Tally → Tally) :
    Table.rising none (r.changeTally zone f).zones = true := by
  cases zone with
  | none => exact h
  | some z => exact Table.rising_set _ _ _ h

/-- The test of a zone changes the references alone (R93). -/
theorem TalliesAgree.testZone (h : TalliesAgree bins r) (now step : Nat) (before : Table Tally) (zone : Nat) :
    TalliesAgree bins (Reporting.testZone now step before r zone) := by
  unfold Reporting.testZone
  dsimp only
  split
  · refine TalliesAgree.of_zones (r := r.setTally zone { r.tally zone with reference := (r.tally zone).litres })
      ⟨h.binsRising, Table.rising_set _ _ _ h.zonesRising, fun z hz => ?_⟩ (by simp)
    rw [Reporting.setTally_tally]
    split
    · next e =>
      subst e
      exact (h.counts z hz).reference _
    · exact h.counts z hz
  · exact h

/-- A bin written with its contribution change keeps the agreement. -/
theorem TalliesAgree.write (h : TalliesAgree bins r) (n : Nat) (b : Bin) (now step : Nat) :
    TalliesAgree (Table.set Bin.reset n b bins)
      (r.applyChange now step (Table.get Bin.reset n bins).fill.contribution b.fill.contribution) := by
  have hbins := Table.rising_set Bin.reset b n h.binsRising
  have hbefore (z : Nat) := contributionsOf_perm z n h.binsRising
  have hafter (z : Nat) := contributionsOf_perm z n hbins
  simp only [Table.get_set_self, Table.erase_set] at hafter
  unfold Reporting.applyChange
  split
  · next hsame =>
    exact ⟨hbins, h.zonesRising, fun z hz => ((h.counts z hz).perm (hbefore z)).perm (hsame ▸ (hafter z).symm)⟩
  · refine List.foldlRecOn (motive := TalliesAgree (Table.set Bin.reset n b bins)) _ _ ?_
      fun r hr z _ => hr.testZone now step _ z
    exact ⟨hbins, Reporting.rising_changeTally (Reporting.rising_changeTally h.zonesRising _ _) _ _, fun z hz =>
      (Reporting.counts_moveContribution _ _ r z ((h.counts z hz).perm (hbefore z))).perm (hafter z).symm⟩

end Agreement

theorem Traffic.talliesAgree {R : Nat → Bin → Bin → Prop} {bins bins' : Table Bin} {r r' : Reporting}
    (h : Traffic R bins r bins' r') (hagree : TalliesAgree bins r) : TalliesAgree bins' r' := by
  induction h with
  | start => exact hagree
  | conditions _ u _ ih => exact ih.of_zones rfl
  | write _ n b now step _ ih => exact ih.write n b now step
  | notice _ now selected x ih => exact ih.of_zones (Reporting.notify_zones _ _ _ _)

/-! ## The table-wide clear -/

/-- What the table-wide clear leaves of a contribution (R99). -/
def Contribution.cleared (c : Contribution) : Contribution :=
  { c with full := false, near := false, stale := false, fallen := false, litres := 0 }

theorem FillState.contribution_cleared (now : Nat) (f : FillState) :
    (f.cleared now).contribution = f.contribution.cleared := by
  unfold FillState.cleared
  split
  · next hactive => simp [FillState.contribution, hactive, Contribution.cleared, FillState.reset]
  · next hactive =>
    unfold FillState.contribution
    split
    · next e => exact absurd e hactive
    · rfl
    · rfl

theorem contributionsOf_cleared (zone now : Nat) (bins : Table Bin) :
    contributionsOf zone (Table.mapEntries Bin.reset (Bin.cleared now) bins)
      = (contributionsOf zone bins).map Contribution.cleared := by
  have hall : contributionsOf zone (bins.map fun e : Nat × Bin => (e.1, e.2.cleared now))
      = (contributionsOf zone bins).map Contribution.cleared := by
    unfold contributionsOf
    rw [List.map_map, List.filter_map, List.filter_map, List.map_map]
    have hpair : ((fun e : Nat × Bin => e.2.fill.contribution) ∘ fun e : Nat × Bin => (e.1, e.2.cleared now))
        = fun e : Nat × Bin => e.2.fill.contribution.cleared := funext fun e : Nat × Bin => FillState.contribution_cleared now e.2.fill
    rw [hpair]
    rfl
  rw [← hall]
  unfold Table.mapEntries
  generalize bins.map (fun e : Nat × Bin => (e.1, e.2.cleared now)) = cleared
  induction cleared with
  | nil => rfl
  | cons e cleared ih =>
    by_cases hreset : e.2 = Bin.reset
    · have hnone : e.2.fill.contribution.inZone zone = [] := by rw [hreset]; rfl
      rw [List.filter_cons_of_neg (by simpa using hreset), contributionsOf_cons, hnone, ih]
      rfl
    · rw [List.filter_cons_of_pos (by simpa using hreset), contributionsOf_cons, contributionsOf_cons, ih]

theorem Tally.Counts.restarted {t : Tally} {cs : List Contribution} (h : t.Counts cs) :
    t.restarted.Counts (cs.map Contribution.cleared) := by
  have hnone (p : Contribution → Bool) (hp : ∀ c, p (Contribution.cleared c) = false) :
      (cs.map Contribution.cleared).countP p = 0 := by
    rw [List.countP_eq_zero]
    simp [hp]
  refine ⟨?_, (hnone (·.full) fun _ => rfl).symm, (hnone (·.near) fun _ => rfl).symm, (hnone (·.stale) fun _ => rfl).symm,
    (hnone (·.fallen) fun _ => rfl).symm, ?_, ?_⟩
  · rw [List.length_map]
    exact h.members
  · rw [List.countP_map]
    exact h.fault
  · rw [List.map_map]
    exact (List.sum_eq_zero_iff_forall_eq_nat.2 (by simp [Contribution.cleared])).symm

theorem TalliesAgree.cleared {bins : Table Bin} {r : Reporting} (h : TalliesAgree bins r) (now : Nat) :
    TalliesAgree (Table.mapEntries Bin.reset (Bin.cleared now) bins)
      { r with zones := Table.mapEntries Tally.zero Tally.restarted r.zones } where
  binsRising := Table.rising_mapEntries _ _ h.binsRising
  zonesRising := Table.rising_mapEntries _ _ h.zonesRising
  counts := fun z hz => by
    rw [contributionsOf_cleared]
    have htally : Reporting.tally z { r with zones := Table.mapEntries Tally.zero Tally.restarted r.zones }
        = (r.tally z).restarted := Table.get_mapEntries _ _ rfl z h.zonesRising
    rw [htally]
    exact (h.counts z hz).restarted

/-- Every command keeps the tallies in agreement. -/
theorem exec_keeps_talliesAgree (c : Instr) {s : State} (h : TalliesAgree s.table.bins s.report) :
    EveryNext (fun t => TalliesAgree t.table.bins t.report) (exec c s) := by
  have hother (hb : .bins ∉ changedParts c) (hz : .tallies ∉ changedParts c) :
      EveryNext (fun t => TalliesAgree t.table.bins t.report) (exec c s) := fun t ht => by
    have hbins : t.table.bins = s.table.bins := exec_agrees (p := .bins) ht hb
    show TalliesAgree t.table.bins t.report
    rw [hbins]
    exact h.of_zones (exec_agrees (p := .tallies) ht hz)
  cases c with
  | deviceReset => exact everyNext_next.2 ⟨rfl, rfl, fun _ _ => Tally.counts_zero⟩
  | recordFetch | runWrite | application | writeBack | visit | staleWrite | loadGrant | convertedRead | binReadAccess
  | binScan => exact fun t ht => (exec_traffic s rfl t ht).talliesAgree h
  | tableWideClear =>
    dsimp only [exec, execTableWideClear]
    split
    · exact everyNext_next.2 (h.cleared s.now)
    · exact everyNext_next.2 h
  | restartCarriedOut =>
    dsimp only [exec, execRestartCarriedOut]
    split
    · exact everyNext_next.2 ((h.cleared s.now).of_zones rfl)
    · exact everyNext_next.2 (h.of_zones rfl)
    · exact everyNext_next.2 h
  | lengthOctetError link octet =>
    cases link <;> exact hother (by simp [changedParts, linkParts]) (by simp [changedParts, linkParts])
  | _ => exact hother (by simp [changedParts, linkParts]) (by simp [changedParts, linkParts])

/-- Settles O9: every command keeps the tallies counting the contributions of the bins. -/
theorem stepKeepsTalliesInAgreement : Obligations.StepKeepsTalliesInAgreement := by
  intro s t hs h
  rw [State.talliesAgree_iff] at hs ⊢
  exact step_keeps (P := fun s => TalliesAgree s.table.bins s.report) (fun _ _ h => h)
    (fun c s t hs => exec_keeps_talliesAgree c hs t) hs h

end Sys2Proof.Machine

/-! The Sweep Engine within its range, its visits counted (R120, R123, R126). -/

namespace Sys2Proof.Machine

section Engine

variable {e : SweepEngine}

/-- What a sound engine under way says of its cursor. -/
theorem SweepEngine.running_of_visit (h : e.sound) (hstage : e.stage ≠ .none) : e.state = .running := h.2.1.2 hstage

theorem SweepEngine.sound_startAuto (interval : Nat) (e : SweepEngine) : (e.startAuto interval).sound :=
  ⟨fun _ => ⟨by rfl, Nat.zero_le _, Nat.le_refl _, Nat.zero_le _, Nat.zero_le _, rfl⟩, iff_of_true rfl nofun, nofun⟩

theorem SweepEngine.sound_startManual {first last : Nat} {direction : Direction}
    (hrange : rangeConsistent first last direction = true) (hfirst : first ≤ 4095) (hlast : last ≤ 4095) :
    (e.startManual first last direction).sound := by
  refine ⟨fun _ => ⟨hrange, hfirst, hlast, Nat.min_le_left _ _, Nat.le_max_left _ _, ?_⟩, iff_of_true rfl nofun, nofun⟩
  simp [SweepEngine.startManual, gapBetween]

theorem SweepEngine.sound_halted (e : SweepEngine) : e.halted.sound :=
  ⟨fun h => absurd rfl h, iff_of_false nofun fun h => h rfl, fun _ => rfl⟩

theorem SweepEngine.sound_expire (h : e.sound) (interval : Nat) : (e.expire interval).sound := by
  unfold SweepEngine.expire
  split
  · exact SweepEngine.sound_startAuto interval _
  · next hstate => exact ⟨h.1, h.2.1, fun hidle => nomatch hstate.symm.trans hidle⟩
  · next hstate => exact ⟨h.1, h.2.1, fun hidle => nomatch hstate.symm.trans hidle⟩

theorem SweepEngine.sound_tick (h : e.sound) : e.tick.sound := by
  unfold SweepEngine.tick
  split
  · exact h
  · exact ⟨h.1, h.2.1, h.2.2⟩

theorem SweepEngine.sound_newInterval (h : e.sound) (interval : Nat) : (e.newInterval interval).sound := by
  unfold SweepEngine.newInterval
  split
  · exact ⟨h.1, h.2.1, fun _ => rfl⟩
  · split
    · exact h
    · exact ⟨h.1, h.2.1, h.2.2⟩

/-- The cursor before the last bin moves one bin on, within the range, and the visits follow it (R126). -/
theorem SweepEngine.nextCursor_within (h : e.sound) (hlive : e.state ≠ .idle) (hmore : e.cursor ≠ e.last) :
    min e.first e.last ≤ e.nextCursor ∧ e.nextCursor ≤ max e.first e.last
      ∧ e.visited + 1 = gapBetween e.nextCursor e.first := by
  obtain ⟨hrange, -, -, hlow, hhigh, hvisited⟩ := h.1 hlive
  unfold SweepEngine.nextCursor
  unfold rangeConsistent at hrange
  unfold gapBetween at hvisited ⊢
  cases hdirection : e.direction <;> simp only [hdirection, decide_eq_true_eq] at hrange ⊢ <;> omega

/-- A visit that ends leaves the engine sound (R123, R126, R127). -/
theorem SweepEngine.sound_afterVisit (h : e.sound) (hstage : e.stage ≠ .none) (interval : Nat) (suspending : Bool) :
    (e.afterVisit interval suspending).sound := by
  have hrunning := SweepEngine.running_of_visit h hstage
  have hlive : e.state ≠ .idle := fun hidle => nomatch hrunning.symm.trans hidle
  unfold SweepEngine.afterVisit
  dsimp only
  split
  · split
    · exact SweepEngine.sound_startAuto interval _
    · next hdue => exact ⟨fun h => absurd rfl h, iff_of_false nofun fun h => h rfl, fun _ => Bool.eq_false_iff.2 hdue⟩
  · next hmore =>
    obtain ⟨hrange, hfirst, hlast, -⟩ := h.1 hlive
    obtain ⟨hlow, hhigh, hvisited⟩ := SweepEngine.nextCursor_within h hlive hmore
    split
    · exact ⟨fun _ => ⟨hrange, hfirst, hlast, hlow, hhigh, hvisited⟩, iff_of_false nofun fun h => h rfl, nofun⟩
    · exact ⟨fun _ => ⟨hrange, hfirst, hlast, hlow, hhigh, hvisited⟩, iff_of_true hrunning nofun,
        fun hidle => absurd hidle hlive⟩

end Engine

section Commands

variable {s u : State}

theorem State.sweepSound_reply (h : s.sweep.sound) (result : ResultCode) (content : List Octet) :
    (s.reply result content).sweep.sound := by
  have hsame : (s.reply result content).sweep = s.sweep := s.reply_leaves result content .sweep (by decide)
  rwa [hsame]

theorem State.endVisit_sweep (u : State) :
    u.endVisit.sweep = u.sweep.afterVisit u.mgmt.params.sweepInterval (u.mgmt.stage == .suspend) := by
  have hended (f : SweepEngine → SweepEngine) : (if u.sweep.cursor = u.sweep.last then
      ((u.count .sweepVisit 1).onSweep f).count .sweepEnd 1 else (u.count .sweepVisit 1).onSweep f).sweep = f u.sweep := by
    split <;> rfl
  unfold State.endVisit
  dsimp only
  by_cases hsuspend : (u.mgmt.stage == .suspend) = true
  · rw [if_pos hsuspend, show State.sweep (State.reply _ _ _) = _ from State.reply_leaves _ _ _ .sweep (by decide)]
    exact hended _
  · rw [if_neg hsuspend]
    exact hended _

theorem State.sweepSound_endVisit (h : u.sweep.sound) (hstage : u.sweep.stage ≠ .none) : u.endVisit.sweep.sound := by
  rw [State.endVisit_sweep]
  exact SweepEngine.sound_afterVisit h hstage _ _

theorem State.sweepSound_judgeVisit (h : u.sweep.sound) (hstage : u.sweep.stage ≠ .none) (b : Bin) :
    (u.judgeVisit b).sweep.sound := by
  unfold State.judgeVisit
  split
  · exact State.sweepSound_endVisit (u := u.count .sweepSkip 1) h hstage
  · split
    · exact State.sweepSound_endVisit h hstage
    · split
      · exact State.sweepSound_endVisit h hstage
      · split
        · have hrunning := SweepEngine.running_of_visit h hstage
          exact ⟨h.1, iff_of_true hrunning nofun, h.2.2⟩
        · exact State.sweepSound_endVisit h hstage

theorem State.markStale_sweep (u : State) (record : BinRecord) (b : Bin) :
    (u.markStale record b).sweep = { u.sweep with found := u.sweep.found + 1 } := by
  unfold State.markStale
  dsimp only
  rw [State.count_sweep, State.onSweep_sweep, State.notify_sweep, State.postChange_sweep, State.setBin_sweep]

theorem State.sweepSound_serveSweepStart (h : s.sweep.sound) (args : List Octet) : (s.serveSweepStart args).sweep.sound := by
  unfold State.serveSweepStart
  dsimp only
  split
  · exact State.sweepSound_reply h _ _
  · split
    · exact State.sweepSound_reply h _ _
    · next hbins =>
      obtain ⟨hfirst, hlast⟩ := not_or.1 hbins
      split
      · exact State.sweepSound_reply h _ _
      · split
        · next hrange =>
          refine State.sweepSound_reply ?_ _ _
          exact SweepEngine.sound_startManual hrange (Nat.le_of_not_lt hfirst) (Nat.le_of_not_lt hlast)
        · have hsame := s.lockAndReply_leaves .sweepRange (fieldAt 0 2 args) .sweep (by decide)
          rwa [show (s.lockAndReply .sweepRange (fieldAt 0 2 args)).sweep = s.sweep from hsame]

theorem State.sweepSound_serveSweepSuspend (h : s.sweep.sound) : s.serveSweepSuspend.sweep.sound := by
  unfold State.serveSweepSuspend
  split
  · next hrunning =>
    split
    · next hnone => exact absurd hnone (h.2.1.1 hrunning)
    · exact h
  · exact State.sweepSound_reply h _ _

theorem State.sweepSound_serveSweepResume (h : s.sweep.sound) : s.serveSweepResume.sweep.sound := by
  unfold State.serveSweepResume
  split
  · next hsuspended =>
    refine State.sweepSound_reply ?_ _ _
    exact ⟨fun _ => h.1 (by rw [hsuspended]; exact nofun), iff_of_true rfl nofun, nofun⟩
  · exact State.sweepSound_reply h _ _

theorem State.sweepSound_serveParamSet (h : s.sweep.sound) (args : List Octet) : (s.serveParamSet args).sweep.sound := by
  unfold State.serveParamSet
  dsimp only
  refine State.sweepSound_reply ?_ _ _
  split
  · exact h
  · exact SweepEngine.sound_newInterval h _

theorem State.sweepSound_overdueEvents (h : s.sweep.sound) : s.overdueEvents.sweep.sound := by
  have hholds (segments : List Nat) :
      (segments.foldl (fun t segment => t.takeHoldExpiry segment) s).sweep = s.sweep :=
    foldl_keeps State.sweep _ (fun t segment => t.takeHoldExpiry_leaves segment .sweep (by decide)) _ _
  have hlater (u : State) (hu : u.sweep = s.sweep) : u.takeAutoExpiry.takeBoundary.takeHoldoffEnd.sweep.sound := by
    rw [show State.sweep (State.takeHoldoffEnd _) = _ from State.takeHoldoffEnd_leaves _ .sweep (by decide),
      show State.sweep (State.takeBoundary _) = _ from State.takeBoundary_leaves _ .sweep (by decide)]
    unfold State.takeAutoExpiry
    rw [← hu] at h
    split
    · exact SweepEngine.sound_expire h _
    · exact h
  unfold State.overdueEvents
  exact hlater _ (hholds _)

/-- Every command keeps the Sweep Engine sound. -/
theorem exec_keeps_sweepSound (c : Instr) (h : s.sweep.sound) : EveryNext (fun t => t.sweep.sound) (exec c s) := by
  have hother (hc : .sweep ∉ changedParts c) : EveryNext (fun t => t.sweep.sound) (exec c s) := fun t ht => by
    have hsame : t.sweep = s.sweep := exec_agrees (p := .sweep) ht hc
    show t.sweep.sound
    rwa [hsame]
  have hserve {k : RequestKind} {bare : List Octet} {rule : List Octet → State → State}
      (hrule : ∀ args, (rule args s).sweep.sound) : (s.serve k bare rule).sweep.sound :=
    State.serve_induction (P := fun t => t.sweep.sound) h (State.sweepSound_reply h _ _) fun r _ => hrule r.args
  have hgranted (k : AccessKind) (n : Nat) (w : Wear) : ((s.granted .sweepEngine).access k false n w).sweep = s.sweep :=
    s.granted_access_leaves .sweepEngine k false n w .sweep (by decide)
  cases c with
  | deviceReset => exact everyNext_next.2 ⟨fun h => absurd rfl h, iff_of_false nofun fun h => h rfl, fun _ => rfl⟩
  | partTimeTick =>
    have hevents := State.sweepSound_overdueEvents h
    dsimp only [exec, execPartTimeTick]
    generalize s.overdueEvents = u at hevents
    exact everyNext_next.2 (SweepEngine.sound_tick hevents)
  | autoCountdownExpiry =>
    dsimp only [exec, execAutoCountdownExpiry, State.takeAutoExpiry]
    split
    · exact everyNext_next.2 (SweepEngine.sound_expire h _)
    · exact everyNext_next.2 h
  | visit wear =>
    dsimp only [exec, execVisit]
    split
    · next hvisit =>
      have hstage : s.sweep.stage ≠ .none := by rw [hvisit.1]; exact nofun
      have hread := hgranted .read s.sweep.cursor wear
      generalize (s.granted .sweepEngine).access .read false s.sweep.cursor wear = u at hread
      rw [← hread] at h hstage
      split
      · exact everyNext_next.2 (State.sweepSound_endVisit h hstage)
      · exact everyNext_next.2 (State.sweepSound_judgeVisit h hstage _)
      · exact everyNext_next.2 (State.sweepSound_judgeVisit h hstage _)
    · exact everyNext_next.2 h
  | staleWrite wear =>
    dsimp only [exec, execStaleWrite]
    split
    · next record generation lastHeard hwrite =>
      split
      · have hstage : s.sweep.stage ≠ .none := by rw [hwrite]; exact nofun
        have hread := hgranted .write s.sweep.cursor wear
        generalize (s.granted .sweepEngine).access .write false s.sweep.cursor wear = u at hread
        rw [← hread] at h hstage
        split
        · refine everyNext_next.2 (State.sweepSound_endVisit ?_ ?_)
          · rw [State.markStale_sweep]
            exact ⟨h.1, h.2.1, h.2.2⟩
          · rwa [State.markStale_sweep]
        · exact everyNext_next.2 (State.sweepSound_endVisit (u := u.count .staleAbandon 1) h hstage)
      · exact everyNext_next.2 h
    · exact everyNext_next.2 h
  | tableWideClear =>
    dsimp only [exec, execTableWideClear]
    split
    · exact everyNext_next.2 (SweepEngine.sound_halted _)
    · exact everyNext_next.2 h
  | restartCarriedOut =>
    dsimp only [exec, execRestartCarriedOut]
    split
    · exact everyNext_next.2 (SweepEngine.sound_halted _)
    · exact everyNext_next.2 (SweepEngine.sound_halted _)
    · exact everyNext_next.2 h
  | paramSet => exact everyNext_next.2 (hserve (State.sweepSound_serveParamSet h))
  | sweepStart =>
    exact everyNext_next.2 (hserve fun args => State.unlessLocked_induction (P := fun t => t.sweep.sound)
      (State.sweepSound_reply h _ _) fun _ => State.sweepSound_serveSweepStart h args)
  | sweepSuspend => exact everyNext_next.2 (hserve fun _ => State.sweepSound_serveSweepSuspend h)
  | sweepResume => exact everyNext_next.2 (hserve fun _ => State.sweepSound_serveSweepResume h)
  | stop =>
    refine everyNext_next.2 (hserve fun _ => State.sweepSound_reply ?_ _ _)
    exact SweepEngine.sound_halted s.sweep
  | lengthOctetError link octet => cases link <;> exact hother (by simp [changedParts, linkParts])
  | _ => exact hother (by simp [changedParts, linkParts, accessParts])

end Commands

/-- Settles O10: every command keeps the Sweep Engine sound. -/
theorem stepKeepsSweepSound : Obligations.StepKeepsSweepSound := fun _ _ hs h =>
  step_keeps (P := fun s => s.sweep.sound) (fun _ _ h => h) (fun c _ t hs => exec_keeps_sweepSound c hs t) hs h

end Sys2Proof.Machine

/-! What changes the tables of a locked unit, Part Time, the protected set, a generation and a credit (R3, R108, R111,
R146, R148). -/

namespace Sys2Proof.Machine

section Protected

variable {s t : State}

theorem State.reply_protected (s : State) (result : ResultCode) (content : List Octet) :
    (s.reply result content).table.protectedSegments = s.table.protectedSegments :=
  (s.reply_leaves result content .segments (by decide)).1

theorem State.takeHoldExpiry_protected (s : State) (segment : Nat) :
    (s.takeHoldExpiry segment).table.protectedSegments = s.table.protectedSegments := by
  unfold State.takeHoldExpiry
  split <;> rfl

theorem State.overdueEvents_protected (s : State) :
    s.overdueEvents.table.protectedSegments = s.table.protectedSegments := by
  have hholds (segments : List Nat) : (segments.foldl (fun t segment => t.takeHoldExpiry segment) s).table.protectedSegments
      = s.table.protectedSegments :=
    foldl_keeps (fun t : State => t.table.protectedSegments) _ (fun t segment => t.takeHoldExpiry_protected segment) _ _
  have hlater (u : State) (hu : u.table.protectedSegments = s.table.protectedSegments) :
      u.takeAutoExpiry.takeBoundary.takeHoldoffEnd.table.protectedSegments = s.table.protectedSegments := by
    rw [(State.takeHoldoffEnd_leaves _ .segments (by decide)).1, (State.takeBoundary_leaves _ .segments (by decide)).1,
      (State.takeAutoExpiry_leaves _ .segments (by decide)).1, hu]
  unfold State.overdueEvents
  exact hlater _ (hholds _)

/-- Every command but PROTECT and a device reset keeps the protected set (R11). -/
theorem exec_keeps_protected (c : Instr) (hreset : ∀ station speed, c ≠ .deviceReset station speed)
    (hprotect : c ≠ .protect) :
    EveryNext (fun t => t.table.protectedSegments = s.table.protectedSegments) (exec c s) := by
  have hother (hc : .segments ∉ changedParts c) :
      EveryNext (fun t => t.table.protectedSegments = s.table.protectedSegments) (exec c s) :=
    fun t ht => (exec_agrees (p := .segments) ht hc).1
  cases c with
  | deviceReset station speed => exact absurd rfl (hreset station speed)
  | protect => exact absurd rfl hprotect
  | partTimeTick =>
    have hevents := s.overdueEvents_protected
    dsimp only [exec, execPartTimeTick]
    generalize s.overdueEvents = u at hevents
    exact everyNext_next.2 hevents
  | holdTimerExpiry segment => exact everyNext_next.2 (s.takeHoldExpiry_protected segment)
  | tableWideClear =>
    dsimp only [exec, execTableWideClear]
    split <;> exact everyNext_next.2 rfl
  | restartCarriedOut =>
    dsimp only [exec, execRestartCarriedOut]
    split <;> exact everyNext_next.2 rfl
  | hold =>
    refine everyNext_next.2 (State.serve_induction
      (P := fun t => t.table.protectedSegments = s.table.protectedSegments) rfl (s.reply_protected _ _) fun r _ => ?_)
    exact State.reply_protected _ _ _
  | release =>
    refine everyNext_next.2 (State.serve_induction
      (P := fun t => t.table.protectedSegments = s.table.protectedSegments) rfl (s.reply_protected _ _) fun r _ => ?_)
    unfold State.serveRelease
    dsimp only
    split
    · exact s.reply_protected _ _
    · split <;> exact State.reply_protected _ _ _
  | lengthOctetError link octet => cases link <;> exact hother (by simp [changedParts, linkParts])
  | _ => exact hother (by simp [changedParts, linkParts, accessParts])

/-- PROTECT leaves the protected set of a locked unit (R146). -/
theorem execProtect_of_locked (hlock : s.mgmt.lock ≠ none) :
    EveryNext (fun t => t.table.protectedSegments = s.table.protectedSegments) (execProtect s) :=
  everyNext_next.2 (State.serve_induction (P := fun t => t.table.protectedSegments = s.table.protectedSegments) rfl
    (s.reply_protected _ _) fun _ _ => State.unlessLocked_induction
      (P := fun t => t.table.protectedSegments = s.table.protectedSegments) (s.reply_protected _ _)
      fun hnone => absurd hnone hlock)

/-- CURVE LOAD leaves the curves of a locked unit (R146). -/
theorem execCurveLoad_of_locked (hlock : s.mgmt.lock ≠ none) :
    EveryNext (fun t => t.curves = s.curves) (execCurveLoad s) :=
  everyNext_next.2 (State.serve_induction (P := fun t => t.curves = s.curves) rfl (s.reply_curves _ _) fun _ _ =>
    State.unlessLocked_induction (P := fun t => t.curves = s.curves) (s.reply_curves _ _) fun hnone => absurd hnone hlock)

/-- Settles O12: the commands that change a table either need an unlocked unit or its stage (R146). -/
theorem lockedUnitKeepsItsTables : Obligations.LockedUnitKeepsItsTables := by
  intro c s t hstores hsound hlock hreset ht
  obtain ⟨hunlocked, -⟩ := hsound
  have hstage : s.mgmt.stage.changesTables = false := hunlocked.resolve_left hlock
  have hidentity : s.SameIdentity t.table.bins := by
    by_cases hload : ∃ wear, c = .loadGrant wear
    · obtain ⟨wear, rfl⟩ := hload
      rcases execLoadGrant_bins wear s t ht with rfl | ⟨n, record, poison, _, _, e, -⟩
      · exact fun _ => ⟨rfl, rfl⟩
      · rw [e] at hstage
        cases hstage
    · exact exec_keeps_identity c ((Table.wf_iff _ _).1 hstores.1).1 hreset (fun wear e => hload ⟨wear, e⟩) t ht
  have hcurves : s.curves.Same t.curves := by
    by_cases hexchange : c = .bankExchange
    · subst hexchange
      rcases execBankExchange_curves s t ht with rfl | ⟨e, -⟩
      · exact .refl _
      · rw [e] at hstage
        cases hstage
    by_cases hload : c = .curveLoad
    · subst hload
      have hsame : t.curves = s.curves := execCurveLoad_of_locked hlock t ht
      rw [hsame]
      exact .refl _
    · exact exec_keeps_sameCurves c hreset hexchange hload t ht
  have hprotected : t.table.protectedSegments = s.table.protectedSegments := by
    by_cases hprotect : c = .protect
    · subst hprotect
      exact execProtect_of_locked hlock t ht
    · exact exec_keeps_protected c hreset hprotect t ht
  exact ⟨hidentity, hcurves.points, hcurves.active, hprotected⟩

end Protected

/-! ## Part Time -/

theorem execPartTimeTick_now (s : State) : EveryNext (fun t => t.now = s.now ∨ t.now = s.now + 1 ∧ s.now < 4294967295)
    (execPartTimeTick s) := by
  have hevents : s.overdueEvents.mgmt = s.mgmt := s.overdueEvents_leaves .mgmt (by decide)
  unfold execPartTimeTick State.now
  generalize s.overdueEvents = u at hevents
  rw [← hevents]
  refine everyNext_next.2 ?_
  unfold State.countTick State.now
  by_cases hrises : u.mgmt.partTime < Config.partTimeMax
  · exact .inr ⟨by simp [hrises], hrises⟩
  · exact .inl (by simp [hrises])

theorem exec_now (c : Instr) (s : State) : EveryNext (fun t => t.now = s.now
    ∨ (c = .partTimeTick ∧ t.now = s.now + 1 ∧ s.now < 4294967295) ∨ c = .timeSet
    ∨ ∃ station speed, c = .deviceReset station speed) (exec c s) := by
  intro t ht
  by_cases hreset : ∃ station speed, c = .deviceReset station speed
  · exact .inr (.inr (.inr hreset))
  by_cases htime : c = .timeSet
  · exact .inr (.inr (.inl htime))
  by_cases htick : c = .partTimeTick
  · subst htick
    exact (execPartTimeTick_now s t ht).imp_right fun h => .inl ⟨rfl, h⟩
  by_cases hroute : c = .trunkIngressRoute
  · subst hroute
    rcases execTrunkIngressRoute_mgmt s t ht with e | ⟨-, r, e⟩ <;> exact .inl (by unfold State.now; rw [e])
  by_cases hreply : c = .replySlotGrant
  · subst hreply
    rcases execReplySlotGrant_mgmt s t ht with e | ⟨-, e⟩ <;> exact .inl ((congrArg ManagementUnit.partTime e).trans rfl)
  exact .inl (exec_mgmt_follows c s (fun a b e => hreset ⟨a, b, e⟩) hroute hreply htick htime t ht).partTime

/-! ## Load generations -/

theorem exec_generation (c : Instr) {s t : State} (hrising : Table.rising none s.table.bins = true)
    (ht : exec c s = .next t) (n : Nat) : (t.bin n).generation = (s.bin n).generation
      ∨ ((∃ wear, c = .loadGrant wear) ∧ (t.bin n).generation = ((s.bin n).generation + 1) % 256)
      ∨ ∃ station speed, c = .deviceReset station speed := by
  by_cases hreset : ∃ station speed, c = .deviceReset station speed
  · exact .inr (.inr hreset)
  by_cases hload : ∃ wear, c = .loadGrant wear
  · obtain ⟨wear, rfl⟩ := hload
    rcases execLoadGrant_bins wear s t ht with rfl | ⟨m, record, poison, finding, u, -, htraffic, hafter⟩
    · exact .inl rfl
    have hidentity := State.sameIdentity_of_accessed htraffic
    have hbin : t.bin n = if n = m then loadedBin record poison finding u.now (u.bin m) else u.bin n := by
      rw [State.bin, hafter, Table.get_set]
      rfl
    rw [hbin]
    split
    · next hn =>
      subst hn
      exact .inr (.inl ⟨⟨wear, rfl⟩, congrArg (fun g => (g + 1) % 256) (hidentity n).2⟩)
    · exact .inl (hidentity n).2
  · exact .inl ((exec_keeps_identity c hrising (fun a b e => hreset ⟨a, b, e⟩) (fun wear e => hload ⟨wear, e⟩) t ht) n).2

/-! ## Credit -/

theorem Channel.takeZone_credit (zone : Nat) (c : Channel) : (c.takeZone zone).credit = c.credit := by
  unfold Channel.takeZone
  split <;> rfl

theorem Channel.settled_credit (now n : Nat) (c : Channel) : (c.settled now n).credit = c.credit := by
  unfold Channel.settled
  split <;> rfl

theorem Channel.boundary_credit (c : Channel) : c.boundary.credit = c.credit := by
  unfold Channel.boundary
  split <;> rfl

theorem Channel.sent_credit (c : Channel) : c.sent.credit = c.credit - 1 := by
  rw [Channel.sent, Channel.refill_eq_paid]
  rfl

/-- Every channel has the credit that it has in `r`. -/
def Reporting.SameCredit (r r' : Reporting) : Prop := ∀ n, (r'.channel n).credit = (r.channel n).credit

section Credit

variable {r r' : Reporting} {s t : State}

theorem Reporting.sameCredit_of_channels (h : r'.channels = r.channels) : r.SameCredit r' := fun n => by
  unfold Reporting.channel
  rw [h]

theorem Reporting.SameCredit.setChannel (h : r.SameCredit r') (n : Nat) {c : Channel}
    (hc : c.credit = (r'.channel n).credit) : r.SameCredit (r'.setChannel n c) := fun m => by
  rw [Reporting.setChannel_channel]
  split
  · next e =>
    rw [hc, e]
    exact h n
  · exact h m

/-- What settling a channel does to the credits: nothing. -/
theorem Reporting.settle_credit (r : Reporting) (now n m : Nat) :
    ((r.settle now n).channel m).credit = (r.channel m).credit := by
  by_cases e : m = n
  · subst e
    rw [Reporting.settle_channel_self, Channel.settled_credit]
  · rw [Reporting.settle_channel_other _ _ e]

theorem Reporting.SameCredit.settle (h : r.SameCredit r') (now n : Nat) : r.SameCredit (r'.settle now n) := fun m =>
  (r'.settle_credit now n m).trans (h m)

theorem Reporting.SameCredit.offerZoneTo (h : r.SameCredit r') (now zone n : Nat) :
    r.SameCredit (r'.offerZoneTo now zone n) := by
  unfold Reporting.offerZoneTo
  dsimp only
  split
  · exact (h.setChannel n (Channel.takeZone_credit _ _)).settle now n
  · exact h

theorem Reporting.SameCredit.offerNoticeTo (h : r.SameCredit r') (now : Nat) (x : Notice) (n : Nat) :
    r.SameCredit (r'.offerNoticeTo now x n) := by
  unfold Reporting.offerNoticeTo
  dsimp only
  split
  · split
    · exact (h.setChannel n (c := (r'.channel n).join (.notice x)) rfl).settle now n
    · exact h.setChannel n (c := { r'.channel n with lost := _ }) rfl
  · exact h

theorem Traffic.sameCredit {R : Nat → Bin → Bin → Prop} {bins bins' : Table Bin} (h : Traffic R bins r bins' r') :
    r.SameCredit r' := by
  induction h with
  | start => exact fun _ => rfl
  | conditions _ _ _ ih => exact ih
  | write _ _ _ now step _ ih =>
    exact Reporting.applyChange_induction (P := r.SameCredit) (fun _ _ _ h => h) (fun _ _ _ h => h)
      (fun _ now z n h => h.offerZoneTo now z n) ih now step _ _
  | notice _ now selected x ih =>
    exact Reporting.notify_induction (P := r.SameCredit) (fun _ _ _ h => h)
      (fun _ now x n h => h.offerNoticeTo now x n) ih now selected x

theorem Reporting.SameCredit.syncZones (h : r.SameCredit r') (now n : Nat) (zones : List Nat) :
    r.SameCredit (r'.syncZones now n zones).1 := by
  induction zones generalizing r' with
  | nil => exact h
  | cons zone zones ih => exact ih ((h.setChannel n (Channel.takeZone_credit _ _)).settle now n)

theorem State.sameCredit_takeBoundary (h : r.SameCredit s.report) : r.SameCredit s.takeBoundary.report := by
  unfold State.takeBoundary
  split
  · have hfold (numbers : List Nat) (r' : Reporting) (hr : r.SameCredit r') :
        r.SameCredit (numbers.foldl (Reporting.boundaryTo s.now) r') :=
      List.foldlRecOn _ _ hr fun r' hr n _ => (hr.setChannel n (Channel.boundary_credit _)).settle s.now n
    rw [State.onReport_report]
    exact hfold _ _ h
  · exact h

theorem State.sameCredit_reply (s : State) (result : ResultCode) (content : List Octet) :
    s.report.SameCredit (s.reply result content).report :=
  Reporting.sameCredit_of_channels (s.reply_leaves result content .channels (by decide))

theorem State.sameCredit_overdueEvents (s : State) : s.report.SameCredit s.overdueEvents.report := by
  have hlater (u : State) (hu : u.report = s.report) : s.report.SameCredit u.takeBoundary.takeHoldoffEnd.report := by
    have hboundary : s.report.SameCredit u.takeBoundary.report :=
      State.sameCredit_takeBoundary (s := u) fun n => by rw [hu]
    exact fun n => (Reporting.sameCredit_of_channels
      (u.takeBoundary.takeHoldoffEnd_leaves .channels (by decide)) n).trans (hboundary n)
  unfold State.overdueEvents
  exact hlater _ (by rw [State.takeAutoExpiry_report, State.foldl_takeHoldExpiry_report])

/-- Every command but a device reset, a REPORT frame, CHANNEL CLOSE, CREDIT and a RESTART carried out keeps every
credit. -/
theorem exec_keeps_credit (c : Instr) (hreset : ∀ station speed, c ≠ .deviceReset station speed)
    (hreport : c ≠ .reportFrame) (hclose : c ≠ .channelClose) (hcredit : c ≠ .credit) (hrestart : c ≠ .restartCarriedOut) :
    EveryNext (fun t => s.report.SameCredit t.report) (exec c s) := by
  have hother (hc : .channels ∉ changedParts c) : EveryNext (fun t => s.report.SameCredit t.report) (exec c s) :=
    fun t ht => Reporting.sameCredit_of_channels (exec_agrees (p := .channels) ht hc)
  have hrefl : s.report.SameCredit s.report := fun _ => rfl
  cases c with
  | deviceReset station speed => exact absurd rfl (hreset station speed)
  | reportFrame => exact absurd rfl hreport
  | channelClose => exact absurd rfl hclose
  | credit => exact absurd rfl hcredit
  | restartCarriedOut => exact absurd rfl hrestart
  | creditOutNotice =>
    dsimp only [exec, execCreditOutNotice]
    split
    · split
      · exact everyNext_next.2 (hrefl.setChannel _ (c := { s.report.channel _ with creditOut := none }) rfl)
      · exact everyNext_next.2 hrefl
    · exact everyNext_next.2 hrefl
  | partTimeTick =>
    refine everyNext_next.2 fun n => ?_
    exact (Reporting.sameCredit_of_channels (s.overdueEvents.countTick_leaves .channels (by decide)) n).trans
      (s.sameCredit_overdueEvents n)
  | paceBoundary => exact everyNext_next.2 (State.sameCredit_takeBoundary hrefl)
  | recordFetch | runWrite | application | writeBack | visit | staleWrite | loadGrant | convertedRead | binReadAccess
  | binScan => exact fun t ht => (exec_traffic s rfl t ht).sameCredit
  | channelSet =>
    refine everyNext_next.2 (State.serve_induction (P := fun t => s.report.SameCredit t.report) hrefl
      (s.sameCredit_reply _ _) fun r _ => State.onChannelNamed_induction (P := fun t => s.report.SameCredit t.report)
        (s.sameCredit_reply _ _) fun _ => ?_)
    unfold State.serveChannelSet
    dsimp only
    split
    · exact s.sameCredit_reply _ _
    · exact fun m => (State.sameCredit_reply _ _ _ m).trans
        (hrefl.setChannel _ (c := Channel.configured _ _ _ (s.report.channel _)) rfl m)
  | sync =>
    refine everyNext_next.2 (State.serve_induction (P := fun t => s.report.SameCredit t.report) hrefl
      (s.sameCredit_reply _ _) fun r _ => State.onChannelNamed_induction (P := fun t => s.report.SameCredit t.report)
        (s.sameCredit_reply _ _) fun _ => ?_)
    unfold State.serveSync
    dsimp only
    split
    · exact s.sameCredit_reply _ _
    · exact fun m => (State.sameCredit_reply _ _ _ m).trans (hrefl.syncZones _ _ _ m)
  | lengthOctetError link octet => cases link <;> exact hother (by simp [changedParts, linkParts])
  | _ => exact hother (by simp [changedParts, linkParts])

/-- A REPORT frame spends one credit of its channel (R108). -/
theorem execReportFrame_credit (s : State) : EveryNext (fun t => ∀ n,
    (t.report.channel n).credit = (s.report.channel n).credit
      ∨ (t.report.channel n).credit + 1 = (s.report.channel n).credit) (execReportFrame s) := by
  unfold execReportFrame
  split
  · next n hgrant =>
    dsimp only
    split
    · exact everyNext_next.2 fun _ => .inl rfl
    · next hout =>
      have hcredit := ((Channel.requests_iff hout).1 (State.requests_of_egressGrant hgrant)).2.2
      refine everyNext_next.2 fun m => ?_
      have hsent : (((s.report.setChannel n (s.report.channel n).sent).settle s.now n).channel m).credit
          = if m = n then (s.report.channel n).credit - 1 else (s.report.channel m).credit := by
        rw [Reporting.settle_credit, Reporting.setChannel_channel]
        split
        · exact Channel.sent_credit _
        · rfl
      rw [State.grantedChannel_report, State.grantedClass_report, State.sendTrunk_report, State.count_report,
        Reporting.count_channel, State.onReport_report, hsent]
      by_cases e : m = n
      · subst e
        exact .inr (by rw [if_pos rfl]; omega)
      · exact .inl (if_neg e)
  · exact everyNext_next.2 fun _ => .inl rfl

/-- CHANNEL CLOSE leaves a channel's credit, or shuts the channel (R113). -/
theorem execChannelClose_credit (s : State) : EveryNext (fun t => ∀ n,
    (t.report.channel n).credit = (s.report.channel n).credit
      ∨ (t.report.channel n).credit = 0 ∧ (t.report.channel n).state = .closed) (execChannelClose s) := by
  refine everyNext_next.2 (State.serve_induction (P := fun t => ∀ n, (t.report.channel n).credit
      = (s.report.channel n).credit ∨ (t.report.channel n).credit = 0 ∧ (t.report.channel n).state = .closed)
    (fun _ => .inl rfl) (fun m => .inl (s.sameCredit_reply _ _ m)) fun r _ => State.onChannelNamed_induction
      (P := fun t => ∀ n, (t.report.channel n).credit = (s.report.channel n).credit
        ∨ (t.report.channel n).credit = 0 ∧ (t.report.channel n).state = .closed)
      (fun m => .inl (s.sameCredit_reply _ _ m)) fun _ m => ?_)
  have hreply (u : State) : (u.reply .done []).report.channel m = u.report.channel m := by
    unfold Reporting.channel
    rw [show (u.reply .done []).report.channels = _ from u.reply_leaves .done [] .channels (by decide)]
  rw [hreply, State.setChannel_report, Reporting.setChannel_channel]
  split
  · exact .inr ⟨rfl, rfl⟩
  · exact .inl rfl

/-- CREDIT leaves a channel's credit, or raises it to at most 255 (R111). -/
theorem execCredit_credit (s : State) : EveryNext (fun t => ∀ n,
    (t.report.channel n).credit = (s.report.channel n).credit
      ∨ ∃ amount, (t.report.channel n).credit = min ((s.report.channel n).credit + amount) 255) (execCredit s) := by
  refine everyNext_next.2 (State.serve_induction (P := fun t => ∀ n, (t.report.channel n).credit
      = (s.report.channel n).credit ∨ ∃ amount, (t.report.channel n).credit = min ((s.report.channel n).credit + amount) 255)
    (fun _ => .inl rfl) (fun m => .inl (s.sameCredit_reply _ _ m)) fun r _ => State.onChannelNamed_induction
      (P := fun t => ∀ n, (t.report.channel n).credit = (s.report.channel n).credit
        ∨ ∃ amount, (t.report.channel n).credit = min ((s.report.channel n).credit + amount) 255)
      (fun m => .inl (s.sameCredit_reply _ _ m)) fun _ m => ?_)
  have hreply (u : State) (content : List Octet) : (u.reply .done content).report.channel m = u.report.channel m := by
    unfold Reporting.channel
    rw [show (u.reply .done content).report.channels = _ from u.reply_leaves .done content .channels (by decide)]
  unfold State.serveCredit
  dsimp only
  split
  · exact .inl (s.sameCredit_reply _ _ m)
  · rw [hreply, State.setChannel_report, Reporting.setChannel_channel]
    split
    · next e =>
      subst e
      exact .inr ⟨_, rfl⟩
    · exact .inl rfl

/-- A RESTART carried out leaves every credit, or leaves none (R117). -/
theorem execRestartCarriedOut_credit (s : State) : EveryNext (fun t => ∀ n,
    (t.report.channel n).credit = (s.report.channel n).credit ∨ (t.report.channel n).credit = 0)
    (execRestartCarriedOut s) := by
  have hrestarted (u : State) (n : Nat) : (u.blocksRestarted.report.channel n).credit = 0 :=
    Table.get_of_forall (P := fun c : Channel => c.credit = 0) rfl (fun e he => by
      obtain ⟨x, -, rfl⟩ := List.mem_map.1 (List.mem_filter.1 he).1
      rfl) n
  unfold execRestartCarriedOut
  split
  · exact everyNext_next.2 fun n => .inr (hrestarted _ n)
  · exact everyNext_next.2 fun n => .inr (hrestarted _ n)
  · exact everyNext_next.2 fun _ => .inl rfl

/-- What a command does to a credit. -/
theorem exec_credit (c : Instr) (ht : exec c s = .next t) (n : Nat) :
    (t.report.channel n).credit = (s.report.channel n).credit
      ∨ (c = .reportFrame ∧ (t.report.channel n).credit + 1 = (s.report.channel n).credit)
      ∨ (c = .channelClose ∧ (t.report.channel n).credit = 0 ∧ (t.report.channel n).state = .closed)
      ∨ (c = .credit ∧ ∃ amount, (t.report.channel n).credit = min ((s.report.channel n).credit + amount) 255)
      ∨ ((c = .restartCarriedOut ∨ ∃ station speed, c = .deviceReset station speed) ∧ (t.report.channel n).credit = 0) := by
  by_cases hreset : ∃ station speed, c = .deviceReset station speed
  · refine .inr (.inr (.inr (.inr ⟨.inr hreset, ?_⟩)))
    obtain ⟨station, speed, rfl⟩ := hreset
    obtain rfl := Host.Outcome.next.inj ht
    rfl
  by_cases hreport : c = .reportFrame
  · subst hreport
    exact (execReportFrame_credit s t ht n).imp_right fun h => .inl ⟨rfl, h⟩
  by_cases hclose : c = .channelClose
  · subst hclose
    exact (execChannelClose_credit s t ht n).imp_right fun h => .inr (.inl ⟨rfl, h⟩)
  by_cases hcredit : c = .credit
  · subst hcredit
    exact (execCredit_credit s t ht n).imp_right fun h => .inr (.inr (.inl ⟨rfl, h⟩))
  by_cases hrestart : c = .restartCarriedOut
  · subst hrestart
    exact (execRestartCarriedOut_credit s t ht n).imp_right fun h => .inr (.inr (.inr ⟨.inl rfl, h⟩))
  · exact .inl (exec_keeps_credit c (fun a b e => hreset ⟨a, b, e⟩) hreport hclose hcredit hrestart t ht n)

end Credit

/-- Settles O13: each of the four settings by what each command does to it. -/
theorem settingsChangeByTheirOwnCommandsAlone : Obligations.SettingsChangeByTheirOwnCommandsAlone := by
  refine ⟨fun c s t ht => exec_now c s t ht, fun c s t ht => ?_, fun c s t n hstores ht => ?_,
    fun c s t n ht hrises => ?_, fun c s t n ht hfew hfalls => ?_⟩
  · by_cases hreset : ∃ station speed, c = .deviceReset station speed
    · exact .inr (.inr hreset)
    by_cases hprotect : c = .protect
    · exact .inr (.inl hprotect)
    · exact .inl (exec_keeps_protected c (fun a b e => hreset ⟨a, b, e⟩) hprotect t ht)
  · exact exec_generation c ((Table.wf_iff _ _).1 hstores.1).1 ht n
  · rcases exec_credit c ht n with e | ⟨-, e⟩ | ⟨-, e, -⟩ | ⟨hc, amount, e⟩ | ⟨-, e⟩
    · omega
    · omega
    · omega
    · exact ⟨hc, Nat.le_trans (Nat.le_of_eq e) (Nat.min_le_right _ _)⟩
    · omega
  · rcases exec_credit c ht n with e | h | ⟨hc, -, hclosed⟩ | ⟨-, amount, e⟩ | ⟨hc, -⟩
    · omega
    · exact .inl h
    · exact .inr (.inl ⟨hc, hclosed⟩)
    · omega
    · exact .inr (.inr hc)

end Sys2Proof.Machine

/-! Receivers and received frames (R132 to R137). -/

namespace Sys2Proof.Machine

/-! ## Numbers as octets -/

theorem beValue_append_singleton (octets : List Octet) (o : Octet) :
    beValue (octets ++ [o]) = 256 * beValue octets + o.toNat := by
  simp [beValue, List.foldl_append]

/-- A number read back from the octets it is laid out in (R161). -/
theorem beValue_beOctets (width n : Nat) : beValue (beOctets width n) = n % 256 ^ width := by
  induction width generalizing n with
  | zero => simp [beOctets, beValue, Nat.mod_one]
  | succ width ih =>
    have hsplit : n % 256 ^ (width + 1) = n % 256 + 256 * (n / 256 % 256 ^ width) := by rw [Nat.pow_succ', Nat.mod_mul]
    rw [beOctets, beValue_append_singleton, ih, BitVec.toNat_ofNat, hsplit, Nat.add_comm]

theorem length_beOctets (width n : Nat) : (beOctets width n).length = width := by
  induction width generalizing n with
  | zero => rfl
  | succ width ih => simp [beOctets, ih]

theorem ofNat_beValue_pair (high low : Octet) : BitVec.ofNat 16 (beValue [high, low]) = high ++ low := by
  refine BitVec.eq_of_toNat_eq ?_
  have hhigh := high.isLt
  have hlow := low.isLt
  have hvalue : beValue [high, low] = high.toNat * 256 + low.toNat := by simp [beValue]; omega
  have hor : high.toNat <<< 8 ||| low.toNat = high.toNat * 256 + low.toNat := by
    rw [Nat.shiftLeft_eq, Nat.mul_comm, ← Nat.two_pow_add_eq_or_of_lt hlow high.toNat]
  rw [hvalue, BitVec.toNat_append, BitVec.toNat_ofNat, hor]
  omega

/-! ## One receiver -/

/-- The receiver goes on with an octet, or stops. -/
def Receiver.goes (rx : Receiver) (octet : Octet) : Option Receiver :=
  match rx.take octet with
  | .goOn rx' => some rx'
  | .received _ _ => none
  | .error _ _ => none

theorem Receiver.goes_eq_some {rx rx' : Receiver} {octet : Octet} :
    rx.goes octet = some rx' ↔ rx.take octet = .goOn rx' := by
  unfold Receiver.goes
  split
  · next e => rw [e]; simp
  · next e => rw [e]; simp
  · next e => rw [e]; simp

/-- The receiver that has taken the length and class octets of a frame and the first octets of its payload. -/
def Receiver.midFrame (length cls : Octet) (payload : List Octet) : Receiver :=
  ⟨if payload.length = length.toNat then .crc else .payload, length :: cls :: payload⟩

theorem Receiver.take_cls (length cls : Octet) :
    (⟨.cls, [length]⟩ : Receiver).take cls = .goOn (.midFrame length cls []) := by
  simp only [Receiver.take, Receiver.length, Receiver.midFrame, octetAt, List.getD_cons_zero, List.length_nil, eq_comm]
  rfl

theorem Receiver.take_payload {length cls : Octet} {payload : List Octet} (h : payload.length < length.toNat) (octet : Octet) :
    (Receiver.midFrame length cls payload).take octet = .goOn (.midFrame length cls (payload ++ [octet])) := by
  have hstate : Receiver.midFrame length cls payload = ⟨.payload, length :: cls :: payload⟩ := by
    rw [Receiver.midFrame, if_neg (Nat.ne_of_lt h)]
  rw [hstate]
  have hlength : (length :: cls :: payload ++ [octet]).length = 2 + length.toNat
      ↔ (payload ++ [octet]).length = length.toNat := by simp; omega
  simp only [Receiver.take, Receiver.length, octetAt, List.getD_cons_zero, hlength]
  rfl

theorem Receiver.goes_payload (length cls : Octet) (done todo : List Octet)
    (h : done.length + todo.length = length.toNat) :
    todo.foldlM Receiver.goes (.midFrame length cls done) = some (.midFrame length cls (done ++ todo)) := by
  induction todo generalizing done with
  | nil => simp
  | cons octet todo ih =>
    have hstep := Receiver.take_payload (cls := cls) (payload := done) (length := length) (by simp at h; omega) octet
    rw [List.foldlM_cons, Receiver.goes_eq_some.2 hstep, Option.bind_eq_bind, Option.bind_some,
      ih (done ++ [octet]) (by simp at h ⊢; omega), List.append_assoc, List.singleton_append]

/-- A whole payload has been taken: the first CRC octet follows. -/
theorem Receiver.take_crcHigh {length cls : Octet} {payload : List Octet} (h : payload.length = length.toNat)
    (high : Octet) :
    (Receiver.midFrame length cls payload).take high = .goOn ⟨.crc, length :: cls :: payload ++ [high]⟩ := by
  rw [Receiver.midFrame, if_pos h]
  have hlength : (length :: cls :: payload ++ [high]).length ≠ 4 + length.toNat := by simp [h]; omega
  simp only [Receiver.take, Receiver.length, octetAt, List.getD_cons_zero, if_neg hlength]

/-- The last CRC octet has been taken: the frame is judged by its CRC (R133). -/
theorem Receiver.take_crcLow {length cls : Octet} {payload : List Octet} (h : payload.length = length.toNat)
    (high low : Octet) :
    (⟨.crc, length :: cls :: payload ++ [high]⟩ : Receiver).take low
      = if crc16 (length :: cls :: payload) = high ++ low then .received ⟨.hunt, []⟩ { cls := cls, payload := payload }
        else .error ⟨.hunt, []⟩ (length :: cls :: payload ++ [high, low]) := by
  have happend : length :: cls :: payload ++ [high] ++ [low] = length :: cls :: payload ++ [high, low] := by simp
  have hlength : (length :: cls :: payload ++ [high, low]).length = 4 + length.toNat := by simp [h]; omega
  have hbody : (length :: cls :: payload).length = 2 + length.toNat := by simp [h]; omega
  have htake : (length :: cls :: payload ++ [high, low]).take (2 + length.toNat) = length :: cls :: payload := by
    rw [← hbody, List.take_left']
    rfl
  have hdrop : (length :: cls :: payload ++ [high, low]).drop (2 + length.toNat) = [high, low] := by
    rw [← hbody, List.drop_left']
    rfl
  have hfirst : octetAt 0 (length :: cls :: payload ++ [high, low]) = length := rfl
  have hsecond : octetAt 1 (length :: cls :: payload ++ [high, low]) = cls := rfl
  simp only [Receiver.take, Receiver.length, happend]
  rw [show octetAt 0 (length :: cls :: payload ++ [high]) = length from rfl, if_pos hlength]
  simp only [judgeCrc, hfirst, hsecond, htake, hdrop, ofNat_beValue_pair]
  rfl

/-! ## A whole frame -/

/-- The octets of a frame but the last, and the last. -/
theorem Frame.octets_eq (f : Frame) : ∃ high low : Octet, high ++ low = crc16 f.body
    ∧ f.octets = 0xA5 :: 0x3C :: BitVec.ofNat 8 f.payload.length :: f.cls :: (f.payload ++ [high]) ++ [low] := by
  have hpair : ∀ octets : List Octet, octets.length = 2 → ∃ high low, octets = [high, low] := fun octets h =>
    match octets, h with
    | [high, low], _ => ⟨high, low, rfl⟩
  obtain ⟨high, low, e⟩ := hpair (beOctets 2 (crc16 f.body).toNat) (length_beOctets 2 _)
  refine ⟨high, low, ?_, by rw [Frame.octets, e]; simp [Frame.body]⟩
  have hcrc : (crc16 f.body).toNat < 256 ^ 2 := (crc16 f.body).isLt
  rw [← ofNat_beValue_pair, ← e, beValue_beOctets, Nat.mod_eq_of_lt hcrc, BitVec.ofNat_toNat, BitVec.setWidth_eq]

/-- A receiver in HUNT goes through a frame to its last octet, and then has received it (R132, R133). -/
theorem Frame.received (f : Frame) (h : f.payload.length ≤ 248) : ∃ (octets : List Octet) (last : Octet) (rx : Receiver),
    f.octets = octets ++ [last] ∧ octets.foldlM Receiver.goes ⟨.hunt, []⟩ = some rx
      ∧ rx.take last = .received ⟨.hunt, []⟩ f := by
  obtain ⟨high, low, hcrc, hoctets⟩ := f.octets_eq
  have hlength : f.payload.length = (BitVec.ofNat 8 f.payload.length).toNat := by
    rw [BitVec.toNat_ofNat]
    omega
  refine ⟨_, low, _, hoctets, ?_, (Receiver.take_crcLow hlength high low).trans (if_pos hcrc.symm)⟩
  have hlengthOctet : (⟨.length, []⟩ : Receiver).take (BitVec.ofNat 8 f.payload.length)
      = .goOn ⟨.cls, [BitVec.ofNat 8 f.payload.length]⟩ := by
    have hsmall : (BitVec.ofNat 8 f.payload.length).toNat ≤ Config.payloadMax := by rw [← hlength]; exact h
    simp only [Receiver.take, List.nil_append, if_pos hsmall]
  have hstart : Receiver.goes ⟨.hunt, []⟩ 0xA5 = some ⟨.pair, []⟩ := by decide
  have hsync : Receiver.goes ⟨.pair, []⟩ 0x3C = some ⟨.length, []⟩ := by decide
  simp only [List.foldlM_cons, hstart, hsync, Receiver.goes_eq_some.2 hlengthOctet,
    Receiver.goes_eq_some.2 (Receiver.take_cls _ f.cls), Option.bind_eq_bind, Option.bind_some, List.foldlM_append,
    Receiver.goes_payload _ f.cls [] f.payload (by rw [List.length_nil, Nat.zero_add]; exact hlength), List.nil_append,
    Receiver.goes_eq_some.2 (Receiver.take_crcHigh hlength high), List.foldlM_nil]
  rfl

/-- Settles O14: the receiver goes through the frame's octets stage by stage. -/
theorem receiverFindsEveryFrame : Obligations.ReceiverFindsEveryFrame := by
  intro f h
  obtain ⟨octets, last, rx, hoctets, hgoes, hlast⟩ := f.received h
  refine ⟨rx, last, ?_, ?_, hlast⟩
  · rw [hoctets, List.getLast?_concat]
  · rw [hoctets, List.dropLast_concat]
    exact hgoes

/-! ## The receivers of the two links -/

section Links

variable {s : State} {l : Link}

@[simp] theorem State.setReceiver_setReceiver (s : State) (l : Link) (rx rx' : Receiver) :
    (s.setReceiver l rx).setReceiver l rx' = s.setReceiver l rx' := by
  cases l <;> rfl

theorem State.setReceiver_self (s : State) (l : Link) : s.setReceiver l (s.receiver l) = s := by
  cases l <;> rfl

/-- The judgement of a frame leaves the receivers. -/
theorem State.judgeFrame_receiver (s : State) (l : Link) (f : Frame) : (s.judgeFrame l f).receiver l = s.receiver l := by
  cases l with
  | field =>
    have hoffer (r : Reading) : (s.offerSensor r).field.rx = s.field.rx := by
      unfold State.offerSensor
      split
      · rfl
      · split
        · rfl
        · dsimp only
          split <;> rfl
    show (s.judgeField f).field.rx = s.field.rx
    unfold State.judgeField State.offerPassThrough
    split
    · split
      · exact hoffer _
      · rfl
    · split
      · split <;> rfl
      · rfl
  | trunk =>
    have hoffer (x : TrunkFrame) : (s.offerTrunk x).trunk.rx = s.trunk.rx := by
      unfold State.offerTrunk
      split <;> rfl
    show (s.judgeTrunk f).trunk.rx = s.trunk.rx
    unfold State.judgeTrunk
    split
    · exact hoffer _
    · split
      · split
        · rfl
        · split
          · exact hoffer _
          · rfl
      · rfl

theorem State.receiveError_receiver (s : State) (l : Link) : (s.receiveError l).receiver l = s.receiver l := by
  cases l <;> rfl

theorem State.takeOctets_nil (l : Link) (n : Nat) (s : State) : s.takeOctets l n [] = s := by
  cases n <;> rfl

/-- An octet that the receiver goes on with. -/
theorem State.arrive_goOn {rx : Receiver} {octet : Octet} (h : (s.receiver l).goes octet = some rx) :
    s.arrive l ⟨octet, true⟩ = s.setReceiver l rx := by
  have htakings : takings (s.receiver l) = (takings (s.receiver l) - 1) + 1 := by
    unfold takings
    have : 0 < ((s.receiver l).taken.length + 2) * ((s.receiver l).taken.length + 2) := Nat.mul_pos (by omega) (by omega)
    omega
  show s.takeOctets l (takings (s.receiver l)) [octet] = _
  rw [htakings, State.takeOctets, Receiver.goes_eq_some.1 h]
  exact State.takeOctets_nil _ _ _

/-- The octet that completes a frame. -/
theorem State.arrive_received {rx : Receiver} {octet : Octet} {f : Frame}
    (h : (s.receiver l).take octet = .received rx f) :
    s.arrive l ⟨octet, true⟩ = (s.setReceiver l rx).judgeFrame l f := by
  have htakings : takings (s.receiver l) = (takings (s.receiver l) - 1) + 1 := by
    unfold takings
    have : 0 < ((s.receiver l).taken.length + 2) * ((s.receiver l).taken.length + 2) := Nat.mul_pos (by omega) (by omega)
    omega
  show s.takeOctets l (takings (s.receiver l)) [octet] = _
  rw [htakings, State.takeOctets, h]
  exact State.takeOctets_nil _ _ _

theorem State.foldl_arrive_goOn {octets : List Octet} {rx : Receiver}
    (h : octets.foldlM Receiver.goes (s.receiver l) = some rx) :
    (octets.map fun octet => (⟨octet, true⟩ : LineOctet)).foldl (State.arrive l) s = s.setReceiver l rx := by
  induction octets generalizing s with
  | nil =>
    obtain rfl : s.receiver l = rx := Option.some.inj h
    exact (s.setReceiver_self l).symm
  | cons octet octets ih =>
    rw [List.foldlM_cons, Option.bind_eq_bind, Option.bind_eq_some_iff] at h
    obtain ⟨next, hnext, hrest⟩ := h
    rw [List.map_cons, List.foldl_cons, State.arrive_goOn hnext, ih (by simpa using hrest), State.setReceiver_setReceiver]

/-- A whole frame that arrives on a link in HUNT is judged (R133, R134). -/
theorem State.foldl_arrive_frame {f : Frame} (h : f.payload.length ≤ 248) (hhunt : s.receiver l = ⟨.hunt, []⟩) :
    (f.octets.map fun octet => (⟨octet, true⟩ : LineOctet)).foldl (State.arrive l) s = s.judgeFrame l f := by
  obtain ⟨octets, last, rx, hoctets, hgoes, hlast⟩ := f.received h
  rw [← hhunt] at hgoes
  rw [hoctets, List.map_append, List.foldl_append, State.foldl_arrive_goOn hgoes, List.map_singleton, List.foldl_cons,
    List.foldl_nil, State.arrive_received (by rw [State.setReceiver_receiver]; exact hlast), State.setReceiver_setReceiver,
    ← hhunt, State.setReceiver_self]

end Links

theorem lane_of_sensorWellFormed {p : List Octet} (h : sensorWellFormed p = true) : (readSensor p).lane ≤ 7 := by
  unfold sensorWellFormed at h
  simp only [Bool.and_eq_true, decide_eq_true_eq] at h
  exact h.1.2

/-- A SENSOR frame of a lane of the field link offered to its FIFO (R135, R136, R159). -/
theorem State.offerSensor_eq (s : State) {r : Reading} (hlane : r.lane ≤ 7) :
    let joined :=
      { s with
        field :=
          { s.field with
            ingress := s.field.ingress ++ [r]
            activity := Table.set 0 r.lane ((Table.get 0 r.lane s.field.activity + 1) % 256) s.field.activity } }
    s.offerSensor r =
      if s.test.running = true ∧ s.test.args.mode = .replace then s.count .replaceDrop 1
      else if 32 ≤ s.field.ingress.length then (s.count .fieldIngressDrop 1).raise .fieldFull
      else if s.field.ingress.length = 15 then joined.raise .fieldHalf
      else joined := by
  have hreplaces : s.replaces r.lane = true ↔ s.test.running = true ∧ s.test.args.mode = .replace := by
    simp [State.replaces, hlane]
  have hhalf : (s.field.ingress ++ [r]).length = 16 ↔ s.field.ingress.length = 15 := by simp
  unfold State.offerSensor
  simp only [hreplaces, Config.fieldIngressRoom, Config.fieldHalf, hhalf]

/-- Settles O16: the frame is judged by its class, and what is well formed is offered. -/
theorem fieldFrameIsJudgedAndOffered : Obligations.FieldFrameIsJudgedAndOffered := by
  intro f s h hhunt r joined
  have hexec : exec (.fldRxFrame (f.octets.map fun octet => ⟨octet, true⟩)) s = .next (s.judgeField f) :=
    congrArg Host.Outcome.next (State.foldl_arrive_frame (l := .field) h hhunt)
  rw [hexec]
  refine congrArg Host.Outcome.next ?_
  by_cases hsensor : f.cls = classSensor
  · have hforeign : ¬ f.cls = 0x02 := fun e => absurd (hsensor.symm.trans e) (by decide)
    by_cases hformed : sensorWellFormed f.payload = true
    · rw [if_pos ⟨hsensor, hformed⟩, State.judgeField, if_pos hsensor, if_pos hformed,
        State.offerSensor_eq s (lane_of_sensorWellFormed hformed)]
    · rw [if_neg fun h => hformed h.2, State.judgeField, if_pos hsensor, if_neg hformed, if_neg hforeign]
      rfl
  · rw [if_neg fun h => hsensor h.1, State.judgeField, if_neg hsensor]
    rfl

/-- Settles O17: the frame is judged by its class, its length and its station. -/
theorem trunkFrameIsJudgedAndOffered : Obligations.TrunkFrameIsJudgedAndOffered := by
  intro f s h hhunt offered
  have hexec : exec (.trkRxFrame (f.octets.map fun octet => ⟨octet, true⟩)) s = .next (s.judgeTrunk f) :=
    congrArg Host.Outcome.next (State.foldl_arrive_frame (l := .trunk) h hhunt)
  have hoffer (frame : TrunkFrame) : s.offerTrunk frame = offered frame := rfl
  rw [hexec]
  refine congrArg Host.Outcome.next ?_
  unfold State.judgeTrunk
  rw [hoffer, hoffer]
  by_cases hforeign : f.cls = classForeign
  · rw [if_pos hforeign, if_pos (show f.cls = 0x02 from hforeign)]
  · rw [if_neg hforeign, if_neg (show ¬ f.cls = 0x02 from hforeign)]
    by_cases hrequest : f.cls = classRequest
    · rw [if_pos hrequest]
      by_cases hshort : f.payload.length < requestHeader
      · rw [if_pos hshort,
          if_neg (show ¬ (f.cls = 0x10 ∧ 6 ≤ f.payload.length) from fun hlong => Nat.not_le_of_lt hshort hlong.2)]
        rfl
      · rw [if_neg hshort, if_pos (show f.cls = 0x10 ∧ 6 ≤ f.payload.length from ⟨hrequest, Nat.le_of_not_lt hshort⟩)]
        rfl
    · rw [if_neg hrequest, if_neg (show ¬ (f.cls = 0x10 ∧ 6 ≤ f.payload.length) from fun hr => hrequest hr.1)]
      rfl

/-! ## Taking again -/

/-- The octets that a receiver may have to take again, and those still to be taken. -/
def Receiver.outstanding (rx : Receiver) (octets : List Octet) : Nat :=
  (match rx.state with
    | .hunt => 0
    | .pair => 1
    | _ => rx.taken.length + 2) + octets.length

/-- Going on leaves no more outstanding. -/
theorem Receiver.outstanding_goOn {rx rx' : Receiver} {octet : Octet} (h : rx.take octet = .goOn rx') (rest : List Octet) :
    rx'.outstanding rest ≤ rx.outstanding (octet :: rest) := by
  obtain ⟨state, taken⟩ := rx
  cases state with
  | hunt =>
    obtain rfl := RxEvent.goOn.inj h
    by_cases hfirst : octet = 0xA5
    · rw [if_pos hfirst]
      simp [Receiver.outstanding]
      omega
    · rw [if_neg hfirst]
      simp [Receiver.outstanding]
  | pair =>
    obtain rfl := RxEvent.goOn.inj h
    by_cases hsecond : octet = 0x3C
    · rw [if_pos hsecond]
      simp [Receiver.outstanding]
      omega
    · rw [if_neg hsecond]
      by_cases hfirst : octet = 0xA5
      · rw [if_pos hfirst]
        simp [Receiver.outstanding]
      · rw [if_neg hfirst]
        simp [Receiver.outstanding]
        omega
  | length =>
    simp only [Receiver.take] at h
    split at h
    · obtain rfl := RxEvent.goOn.inj h
      simp [Receiver.outstanding]
      omega
    · cases h
  | cls =>
    obtain rfl := RxEvent.goOn.inj h
    unfold Receiver.outstanding
    split <;> simp <;> omega
  | payload =>
    obtain rfl := RxEvent.goOn.inj h
    unfold Receiver.outstanding
    split <;> simp <;> omega
  | crc =>
    simp only [Receiver.take, judgeCrc] at h
    split at h
    · split at h <;> cases h
    · obtain rfl := RxEvent.goOn.inj h
      simp [Receiver.outstanding]
      omega

/-- A frame received and a receive error leave the receiver hunting; the octets that an error returns are fewer by the sync
pair than those outstanding. -/
theorem Receiver.outstanding_error {rx rx' : Receiver} {octet : Octet} {again : List Octet}
    (h : rx.take octet = .error rx' again) (rest : List Octet) :
    rx' = ⟨.hunt, []⟩ ∧ (again ++ rest).length + 2 = rx.outstanding (octet :: rest) := by
  obtain ⟨state, taken⟩ := rx
  cases state with
  | hunt | pair | cls | payload => cases h
  | length =>
    simp only [Receiver.take] at h
    split at h
    · cases h
    · obtain ⟨rfl, rfl⟩ := RxEvent.error.inj h
      refine ⟨rfl, ?_⟩
      simp [Receiver.outstanding]
      omega
  | crc =>
    simp only [Receiver.take, judgeCrc] at h
    split at h
    · split at h
      · cases h
      · obtain ⟨rfl, rfl⟩ := RxEvent.error.inj h
        refine ⟨rfl, ?_⟩
        simp [Receiver.outstanding]
        omega
    · cases h

theorem Receiver.outstanding_received {rx rx' : Receiver} {octet : Octet} {f : Frame}
    (h : rx.take octet = .received rx' f) (rest : List Octet) :
    rx' = ⟨.hunt, []⟩ ∧ rest.length ≤ rx.outstanding (octet :: rest) := by
  obtain ⟨state, taken⟩ := rx
  refine ⟨?_, by simp [Receiver.outstanding]; omega⟩
  cases state with
  | hunt | pair | cls | payload => cases h
  | length =>
    simp only [Receiver.take] at h
    split at h <;> cases h
  | crc =>
    simp only [Receiver.take, judgeCrc] at h
    split at h
    · split at h
      · obtain ⟨rfl, -⟩ := RxEvent.received.inj h
        rfl
      · cases h
    · cases h

theorem square_add (k c : Nat) : (k + c) ^ 2 = k ^ 2 + 2 * c * k + c * c := by
  have htwice : 2 * c * k = k * c + k * c := by rw [Nat.mul_assoc, Nat.two_mul, Nat.mul_comm c k]
  rw [Nat.pow_two, Nat.pow_two, Nat.add_mul, Nat.mul_add, Nat.mul_add, Nat.mul_comm c k, htwice]
  omega

/-- Enough takings: each error takes two octets from those outstanding, so that a quarter of their square bounds what
the errors return. -/
theorem State.takeOctets_succ (l : Link) (n : Nat) (octets : List Octet) (s : State)
    (h : 4 * octets.length + (s.receiver l).outstanding octets ^ 2 ≤ 4 * n) :
    s.takeOctets l (n + 1) octets = s.takeOctets l n octets := by
  induction n generalizing octets s with
  | zero =>
    obtain rfl : octets = [] := List.eq_nil_of_length_eq_zero (by omega)
    rfl
  | succ n ih =>
    cases octets with
    | nil => rfl
    | cons octet rest =>
      rw [List.length_cons] at h
      rw [State.takeOctets, State.takeOctets]
      cases htake : (s.receiver l).take octet with
      | goOn rx =>
        have hless := Nat.pow_le_pow_left (Receiver.outstanding_goOn htake rest) 2
        refine ih rest _ ?_
        rw [State.setReceiver_receiver]
        omega
      | received rx f =>
        obtain ⟨rfl, hless⟩ := Receiver.outstanding_received htake rest
        have hsquare := Nat.pow_le_pow_left hless 2
        refine ih rest _ ?_
        rw [State.judgeFrame_receiver, State.setReceiver_receiver]
        simp only [Receiver.outstanding, Nat.zero_add]
        omega
      | error rx again =>
        obtain ⟨rfl, hless⟩ := Receiver.outstanding_error htake rest
        refine ih (again ++ rest) _ ?_
        rw [State.receiveError_receiver, State.setReceiver_receiver]
        rw [← hless] at h
        simp only [Receiver.outstanding, Nat.zero_add]
        rw [square_add] at h
        omega

/-- The bound on the takings never cuts them short. -/
theorem State.takeOctets_of_takings_le (l : Link) (s : State) (octet : Octet) {n : Nat} (h : takings (s.receiver l) ≤ n) :
    s.takeOctets l n [octet] = s.takeOctets l (takings (s.receiver l)) [octet] := by
  obtain ⟨more, rfl⟩ := Nat.exists_eq_add_of_le h
  clear h
  induction more with
  | zero => rfl
  | succ more ih =>
    rw [← ih]
    refine State.takeOctets_succ l (takings (s.receiver l) + more) [octet] s ?_
    have houtstanding : (s.receiver l).outstanding [octet] ≤ (s.receiver l).taken.length + 3 := by
      unfold Receiver.outstanding
      split <;> simp
    have hsquare := Nat.pow_le_pow_left houtstanding 2
    unfold takings
    simp only [List.length_singleton]
    rw [square_add] at hsquare
    rw [← Nat.pow_two, square_add]
    omega

/-- A length octet above 248 in LENGTH: the error, and the octet taken again in HUNT. -/
theorem State.arrive_lengthError {l : Link} {octet : LineOctet} (s : State) (h : 248 < octet.value.toNat)
    (hlength : s.receiver l = ⟨.length, []⟩) :
    s.arrive l octet = ((if octet.stopBit then s else s.lineError l).receiveError l).setReceiver l ⟨.hunt, []⟩ := by
  have hkept : (if octet.stopBit then s else s.lineError l).receiver l = ⟨.length, []⟩ := by
    split
    · exact hlength
    · cases l <;> exact hlength
  unfold State.arrive
  dsimp only
  generalize (if octet.stopBit then s else s.lineError l) = u at hkept
  have herror : (⟨.length, []⟩ : Receiver).take octet.value = .error ⟨.hunt, []⟩ [octet.value] :=
    if_neg (Nat.not_le_of_lt h)
  have hhunt : (⟨.hunt, []⟩ : Receiver).take octet.value = .goOn ⟨.hunt, []⟩ := by
    have hsync : octet.value ≠ 0xA5 := fun e => absurd (e ▸ h) (by decide)
    exact congrArg RxEvent.goOn (if_neg hsync)
  rw [hkept, show takings ⟨.length, []⟩ = 4 from rfl, State.takeOctets, hkept, herror]
  simp only [List.append_nil, State.takeOctets, State.receiveError_receiver, State.setReceiver_receiver, hhunt]
  cases l <;> rfl

/-- Settles O15: the two receive errors, the bound on the takings, and the length octet error. -/
theorem receiveErrorsAreCountedAndRetaken : Obligations.ReceiveErrorsAreCountedAndRetaken := by
  refine ⟨⟨fun rx octet hstate hlong => ?_, fun length cls payload high low hlength hcrc => ?_⟩,
    fun l s octet n h => State.takeOctets_of_takings_le l s octet h, fun octet s hlong => ⟨fun hrx => ?_, fun hrx => ?_⟩⟩
  · simp only [Receiver.take, hstate, if_neg (Nat.not_le_of_lt hlong)]
    rfl
  · exact (Receiver.take_crcLow hlength high low).trans (if_neg hcrc)
  · have harrive := State.arrive_lengthError (l := .field) s hlong hrx
    have hlengthState : (s.receiver .field).state = .length := congrArg Receiver.state hrx
    show execLengthOctetError .field octet s = _
    rw [execLengthOctetError, if_pos ⟨hlengthState, hlong⟩, harrive]
    cases octet.stopBit <;> rfl
  · have harrive := State.arrive_lengthError (l := .trunk) s hlong hrx
    have hlengthState : (s.receiver .trunk).state = .length := congrArg Receiver.state hrx
    show execLengthOctetError .trunk octet s = _
    rw [execLengthOctetError, if_pos ⟨hlengthState, hlong⟩, harrive]
    cases octet.stopBit <;> rfl

end Sys2Proof.Machine

/-! The arbiters of the trunk egress and of the table port (R9, R10, R140, R141), and the rules of the condition flags and
the statistics counters (R153, R155, R157). -/

namespace Sys2Proof.Machine

/-! ## The arbiters -/

/-- The first of a list that rises in `wait` is the one that waits least. -/
theorem find?_eq_some_iff_least {α : Type} {p : α → Bool} {wait : α → Nat} {l : List α}
    (hrises : l.Pairwise fun a b => wait a < wait b) (x : α) :
    l.find? p = some x ↔ x ∈ l ∧ p x = true ∧ ∀ y ∈ l, p y = true → wait x ≤ wait y := by
  induction l with
  | nil => simp
  | cons a l ih =>
    obtain ⟨hfirst, hrest⟩ := List.pairwise_cons.1 hrises
    by_cases ha : p a = true
    · rw [List.find?_cons_of_pos ha, Option.some.injEq]
      constructor
      · rintro rfl
        refine ⟨List.mem_cons_self .., ha, fun y hy _ => ?_⟩
        rcases List.mem_cons.1 hy with rfl | hy
        · exact Nat.le_refl _
        · exact Nat.le_of_lt (hfirst y hy)
      · rintro ⟨hx, -, hleast⟩
        rcases List.mem_cons.1 hx with rfl | hx
        · rfl
        · exact absurd (hleast a (List.mem_cons_self ..) ha) (Nat.not_le_of_lt (hfirst x hx))
    · rw [List.find?_cons_of_neg ha, ih hrest]
      constructor
      · rintro ⟨hx, hpx, hleast⟩
        refine ⟨List.mem_cons_of_mem _ hx, hpx, fun y hy hpy => ?_⟩
        rcases List.mem_cons.1 hy with rfl | hy
        · exact absurd hpy ha
        · exact hleast y hy hpy
      · rintro ⟨hx, hpx, hleast⟩
        refine ⟨?_, hpx, fun y hy => hleast y (List.mem_cons_of_mem _ hy)⟩
        rcases List.mem_cons.1 hx with rfl | hx
        · exact absurd hpx ha
        · exact hx

theorem channelsAfter_rises (last : Nat) :
    (channelsAfter last).Pairwise fun n m => (n + 7 * (last + 1)) % 8 < (m + 7 * (last + 1)) % 8 := by
  have hplace (i : Nat) (hi : i < 8) : ((last + 1 + i) % 8 + 7 * (last + 1)) % 8 = i := by omega
  refine List.pairwise_map.2 (List.Pairwise.imp_of_mem (R := (· < ·)) (fun {i j} hi hj hless => ?_) (by decide))
  rw [hplace i (mem_channelNumbers.1 hi), hplace j (mem_channelNumbers.1 hj)]
  exact hless

theorem mem_channelsAfter {last n : Nat} : n ∈ channelsAfter last ↔ n < 8 := by
  refine List.mem_map.trans ⟨?_, fun hn => ⟨(n + 7 * (last + 1)) % 8, mem_channelNumbers.2 (by omega), by omega⟩⟩
  rintro ⟨i, -, rfl⟩
  omega

/-- The first requesting channel after the one granted last. -/
theorem find?_channelsAfter (p : Nat → Bool) (last n : Nat) :
    (channelsAfter last).find? p = some n ↔
      n < 8 ∧ p n = true ∧ ∀ m < 8, p m = true → (n + 7 * (last + 1)) % 8 ≤ (m + 7 * (last + 1)) % 8 := by
  simp only [find?_eq_some_iff_least (channelsAfter_rises last), mem_channelsAfter]

/-- Settles O20: the two orders, source by source. -/
theorem egressArbiterFollowsItsOrder : Obligations.EgressArbiterFollowsItsOrder := by
  intro s
  have hgrant : (s.egressGrant = none ↔ s.ownSource = none ∧ s.trunk.passThrough = [])
      ∧ (s.trunk.passThrough ≠ [] → s.ownSource ≠ none →
          s.egressGrant = if s.trunk.lastClass = .own then some .passThrough else s.ownSource)
      ∧ (s.trunk.passThrough = [] → s.egressGrant = s.ownSource)
      ∧ (s.trunk.passThrough ≠ [] → s.ownSource = none → s.egressGrant = some .passThrough) := by
    unfold State.egressGrant
    cases s.ownSource <;> cases s.trunk.passThrough <;> cases s.trunk.lastClass <;> simp
  obtain ⟨hnone, hboth, hown, hpass⟩ := hgrant
  refine ⟨hnone, hboth, hown, hpass, ?_⟩
  unfold State.ownSource
  cases hreply : s.mgmt.reply with
  | some reply => simp
  | none =>
    cases hrefusal : s.trunk.refusal with
    | some refusal => simp
    | none =>
      by_cases hnotice : s.report.conditions.noticeWaiting = true ∧ s.report.conditions.address.isSome = true
      · simp [hnotice.1, hnotice.2, Option.isSome_iff_ne_none.1 hnotice.2]
      · have hwaits : s.report.conditions.noticeWaiting = false ∨ s.report.conditions.address = none := by
          cases hwaiting : s.report.conditions.noticeWaiting with
          | false => exact .inl rfl
          | true => exact .inr (Option.not_isSome_iff_eq_none.1 fun haddress => hnotice ⟨hwaiting, haddress⟩)
        have hno : ¬ (s.report.conditions.noticeWaiting = true ∧ s.report.conditions.address ≠ none) := by
          rwa [← Option.isSome_iff_ne_none]
        simp [hnotice, hwaits, hno, find?_channelsAfter, -not_and]

theorem Requester.order_rises (last : Requester) :
    last.order.Pairwise fun q r => Requester.wait last q < Requester.wait last r := by
  cases last <;> decide

theorem Requester.mem_order (last r : Requester) : r ∈ last.order := by cases last <;> cases r <;> decide

/-- A fill write of a bin without a repair mark. -/
theorem State.access_write_unmarked {s : State} {n : Nat} (h : (s.bin n).repair = false) (test : Bool) (wear : Wear) :
    s.access .write test n wear = s.setBin n { s.bin n with badBits := worn wear (s.bin n).badBits } := by
  have hrepair : (s.wornBin n wear).repair = false := h
  have hfinding : s.finding .write n wear = .good := by
    unfold State.finding Bin.finding
    rw [hrepair]
    rfl
  have htested : (s.wornBin n wear).tested .write = s.wornBin n wear := by
    unfold Bin.tested
    rw [hrepair, show (s.wornBin n wear).finding .write = .good from hfinding]
    rfl
  unfold State.access
  rw [hfinding, htested]
  rfl

/-- Settles O32: the arbiter is the least wait, and the write without a mark writes the wear alone. -/
theorem portArbiterFollowsItsOrder : Obligations.PortArbiterFollowsItsOrder := by
  refine ⟨fun s => ⟨?_, fun r => ?_⟩, fun test n wear s hrepair => ?_⟩
  · unfold State.portGrant
    rw [List.find?_eq_none]
    exact ⟨fun h r => eq_false_of_ne_true (h r (s.table.lastGrant.mem_order r)), fun h r _ => by simp [h r]⟩
  · unfold State.portGrant
    simp only [find?_eq_some_iff_least s.table.lastGrant.order_rises, s.table.lastGrant.mem_order, true_and, true_implies]
  · rw [State.access_write_unmarked hrepair]
    exact ⟨State.setBin_bin_self .., State.keepsAllBut_of_leavesBut (s.setBin_leaves _ _),
      fun m hm => State.setBin_bin_other s hm _⟩

/-! ## Flags and counters -/

theorem ConditionUnit.raise_noticeWaiting (u : ConditionUnit) (f : Flag) :
    (u.raise f).noticeWaiting =
      (u.noticeWaiting
        || (!Bits.has f.index u.raised && Bits.has f.index u.enabled && u.address.isSome && u.holdoff.isNone)) := by
  rcases u.raise_cases f with ⟨hraised, h⟩ | ⟨hclear, henabled, h⟩ | ⟨hclear, henabled, h⟩
  · simp [h, hraised]
  · simp [h, henabled]
  · rw [h, ConditionUnit.gain_eq]
    simp [hclear, henabled]

theorem ConditionUnit.raise_gainInHoldoff (u : ConditionUnit) (f : Flag) :
    (u.raise f).gainInHoldoff =
      (u.gainInHoldoff
        || (!Bits.has f.index u.raised && Bits.has f.index u.enabled && u.address.isSome && !u.noticeWaiting
            && u.holdoff.isSome)) := by
  rcases u.raise_cases f with ⟨hraised, h⟩ | ⟨hclear, henabled, h⟩ | ⟨hclear, henabled, h⟩
  · simp [h, hraised]
  · simp [h, henabled]
  · rw [h, ConditionUnit.gain_eq]
    simp [hclear, henabled]

/-- Raising a flag changes the raised flags and what a gain changes, and no other field. -/
theorem ConditionUnit.raise_eq_with (u : ConditionUnit) (f : Flag) :
    u.raise f =
      { u with
        raised := (u.raise f).raised, noticeWaiting := (u.raise f).noticeWaiting
        gainInHoldoff := (u.raise f).gainInHoldoff } := by
  rcases u.raise_cases f with ⟨-, h⟩ | ⟨-, -, h⟩ | ⟨-, -, h⟩
  · simp only [h]
  · simp only [h]
  · simp only [h, ConditionUnit.gain_eq]

theorem Counter.rise_eq (amount : Nat) (k : Counter) :
    k.rise amount =
      { live := min (k.live + amount) 4294967295, snap := k.snap
        changed := k.changed || decide (min (k.live + amount) 4294967295 ≠ k.live) } := by
  simp [Counter.rise, Config.counterMax, bne]
  rfl

/-- Settles O21: the two outcomes of raising a flag field by field, and counting. -/
theorem flagsAndCountersFollowTheirRules : Obligations.FlagsAndCountersFollowTheirRules := by
  refine ⟨fun f u => ⟨u.raise_raised f, fun hraised => ?_, u.raise_noticeWaiting f, u.raise_gainInHoldoff f,
    u.raise_eq_with f⟩, fun c d amount s => ⟨?_, State.keepsAllBut_of_leavesBut (s.count_leaves c amount)⟩⟩
  · simp [ConditionUnit.raise, hraised]
  · rw [State.count_counter, Counter.rise_eq]

end Sys2Proof.Machine

/-! Device reset, and the one-second tick with its events: the pace boundary, the auto countdown, the holdoff and the hold
timers (R13, R42, R106, R119, R120, R148, R156). -/

namespace Sys2Proof.Machine

/-! ## Device reset -/

/-- Settles O3: the reset state, field by field. -/
theorem deviceResetGivesTheResetState : Obligations.DeviceResetGivesTheResetState := by
  intro station speed s
  have hflags : State.raisedFlags { State.resetWith station.toNat speed.toNat with
      freeCount := s.freeCount, pending := s.pending } = 0 := by
    simp [State.raisedFlags, State.resetWith, Bits.drop]
  have henabled (f : Flag) : Bits.has f.index (0xFFD : BitVec 12) = (f != .fieldHalf) := by cases f <;> decide
  refine ⟨_, rfl, fun _ => rfl, rfl, rfl, rfl, rfl, rfl, fun bank _ => ?_, rfl, rfl, fun _ => rfl, fun _ => rfl, rfl, rfl, rfl,
    rfl, rfl, rfl, rfl, rfl, rfl, rfl, fun _ => rfl, rfl, rfl, rfl, hflags, fun f => ?_, rfl, rfl, rfl, rfl, rfl, fun _ => rfl,
    rfl, rfl, rfl, rfl⟩
  · cases bank <;> exact ⟨rfl, rfl, rfl⟩
  · exact henabled f

/-- Settles O4: the stores and the lists are empty, so that nothing is left to judge in them. -/
theorem resetMeetsTheInvariants : Obligations.ResetMeetsTheInvariants := by
  intro station speed
  have hlists : (State.resetWith station speed).listsSound := by simp [State.listsSound, State.resetWith]
  have hbins : (State.resetWith station speed).binsSound := by
    simp [State.binsSound, State.resetWith, ReadingUnit.sound, Stage.sound]
  have htallies : (State.resetWith station speed).talliesAgree :=
    ⟨rfl, rfl, fun _ _ => ⟨rfl, rfl, rfl, rfl, rfl, rfl, rfl⟩⟩
  have hsweep : (State.resetWith station speed).sweep.sound := by simp [SweepEngine.sound, State.resetWith]
  have hmgmt : (State.resetWith station speed).mgmt.sound := by
    simp [ManagementUnit.sound, State.resetWith, Stage.serving]
  have hlitres : (State.resetWith station speed).litresAgree := by
    simp [State.litresAgree, State.resetWith, ReadingUnit.accepted, ReadingUnit.litresFit]
  have hcurves : (State.resetWith station speed).curvesNamed := by
    simp [State.curvesNamed, State.resetWith, ReadingUnit.accepted, Stage.loading, Stage.scanned]
  exact ⟨⟨rfl, rfl, rfl, rfl, rfl, rfl, rfl, rfl⟩, hlists, fun _ he => absurd he List.not_mem_nil, hbins, htallies, hsweep,
    hmgmt, hlitres, hcurves⟩

/-! ## The pace boundary -/

/-- A channel whose entries a pace boundary marks due (R106). -/
def Channel.marked (c : Channel) : Bool := c.mode == .paced && c.state != .closed

/-- A channel that a pace boundary starves (R106, R109). -/
def Channel.boundaryStarves (c : Channel) : Bool :=
  c.marked && c.state == .opened && c.credit == 0 && !c.queue.isEmpty

theorem Channel.boundary_of_marked {c : Channel} (h : c.marked = true) :
    c.boundary = { c with queue := c.queue.map fun e => { e with due := true } } :=
  if_pos (by simpa [Channel.marked] using h)

theorem Channel.boundary_of_not_marked {c : Channel} (h : ¬ c.marked = true) : c.boundary = c :=
  if_neg (by simpa [Channel.marked] using h)

/-- A boundary exhausts a channel that was not exhausted exactly by marking the entries of an OPEN one without credit. -/
theorem Channel.boundary_exhausted {c : Channel} (h : c.exhausted = false) : c.boundary.exhausted = c.boundaryStarves := by
  by_cases hmarked : c.marked = true
  · have hpaced : c.mode = .paced := by
      simp only [Channel.marked, Bool.and_eq_true, beq_iff_eq] at hmarked
      exact hmarked.1
    rw [Channel.boundary_of_marked hmarked, Channel.boundaryStarves, hmarked]
    cases hqueue : c.queue <;>
      simp [Channel.exhausted, Channel.eligible, hpaced, List.filter_map, Function.comp_def]
  · rw [Channel.boundary_of_not_marked hmarked, h, Channel.boundaryStarves]
    simp [hmarked]

theorem Reporting.boundaryTo_channel_self (now : Nat) (r : Reporting) (n : Nat) :
    (r.boundaryTo now n).channel n = (r.channel n).boundary.settled now n := by
  rw [Reporting.boundaryTo, Reporting.settle_channel_self, Reporting.setChannel_channel_self]

theorem Reporting.boundaryTo_channel_other (now : Nat) (r : Reporting) (n m : Nat) (h : m ≠ n) :
    (r.boundaryTo now n).channel m = r.channel m := by
  rw [Reporting.boundaryTo, Reporting.settle_channel_other _ _ h, Reporting.setChannel_channel, if_neg h]

theorem Reporting.boundaryTo_raised_starved (now : Nat) (r : Reporting) (n : Nat) :
    Bits.has Flag.starved.index (r.boundaryTo now n).conditions.raised = true ↔
      (r.channel n).boundary.exhausted = true ∨ Bits.has Flag.starved.index r.conditions.raised = true := by
  rw [Reporting.boundaryTo, Reporting.settle_conditions, Reporting.setChannel_channel_self, Reporting.setChannel_conditions]
  by_cases hexhausted : (r.channel n).boundary.exhausted = true <;> simp [hexhausted, ConditionUnit.raise_raised]

/-- The channel after a boundary, in the words of R106 and R109. -/
theorem Channel.boundary_settled {c : Channel} (h : c.exhausted = false) (now n : Nat) :
    c.boundary.settled now n =
      if c.marked then
        { c with
          queue := c.queue.map fun e => { item := e.item, due := true }
          state := if c.boundaryStarves then .starved else c.state
          creditOut :=
            if c.boundaryStarves then
              some
                { destination := c.destination, channel := n, partTime := now, queueLength := c.queue.length
                  lost := c.lost }
            else c.creditOut }
      else c := by
  rw [Channel.settled, Channel.boundary_exhausted h]
  by_cases hmarked : c.marked = true
  · rw [Channel.boundary_of_marked hmarked]
    by_cases hstarves : c.boundaryStarves = true <;> simp [hmarked, hstarves, Channel.frozenCreditOut]
  · have hkeeps : ¬ c.boundaryStarves = true := fun hstarves => by simp [Channel.boundaryStarves, hmarked] at hstarves
    rw [Channel.boundary_of_not_marked hmarked, if_neg hmarked, if_neg hkeeps]

/-- Settles O25: the boundary reaches each channel once, in the state it had before it. -/
theorem paceBoundaryMarksEntriesDue : Obligations.PaceBoundaryMarksEntriesDue := by
  intro s hboundary hlive marks starves
  have htaken : s.takeBoundary =
      { s with report := channelNumbers.foldl (Reporting.boundaryTo s.now) { s.report with boundary := false } } :=
    if_pos hboundary
  have hchannel (n : Nat) : Reporting.channel n { s.report with boundary := false } = s.report.channel n := rfl
  refine ⟨s.takeBoundary, rfl, ?_, fun n hn => ?_, fun f => ?_, State.keepsAllBut_of_leavesBut
    (State.leavesBut_mono s.takeBoundary_leaves (by decide))⟩
  · rw [htaken]
    exact foldl_keeps Reporting.boundary _ (fun r n => by simp [Reporting.boundaryTo]) _ _
  · dsimp only
    rw [htaken, foldl_channel (g := fun m c => c.boundary.settled s.now m) (Reporting.boundaryTo_channel_self s.now)
      (Reporting.boundaryTo_channel_other s.now) nodup_channelNumbers, if_pos (mem_channelNumbers.2 hn), hchannel,
      Channel.boundary_settled (hlive n hn)]
    rfl
  · rw [htaken]
    by_cases hf : f = .starved
    · subst hf
      have hsame : (∃ n ∈ channelNumbers, (s.report.channel n).boundary.exhausted = true) ↔
          ∃ n ∈ channelNumbers, starves (s.report.channel n) = true := by
        refine exists_congr fun n => and_congr_right fun hn => ?_
        rw [Channel.boundary_exhausted (hlive n (mem_channelNumbers.1 hn))]
        rfl
      rw [Bool.eq_iff_iff, foldl_raised (raises := fun c => c.boundary.exhausted = true)
        (Reporting.boundaryTo_channel_other s.now) (Reporting.boundaryTo_raised_starved s.now) nodup_channelNumbers]
      simp only [hchannel, hsame, beq_self_eq_true, Bool.true_and, Bool.or_eq_true, List.any_eq_true]
      exact or_comm
    · have hkeeps := foldl_keeps (fun r : Reporting => Bits.has f.index r.conditions.raised) (Reporting.boundaryTo s.now)
        (fun r n => Reporting.settle_raised_other hf _ s.now n) channelNumbers { s.report with boundary := false }
      rw [beq_eq_false_iff_ne.2 hf, Bool.false_and, Bool.or_false]
      dsimp only at hkeeps ⊢
      exact hkeeps

/-! ## The tick -/

theorem Table.mem_of_has {α : Type} {key : Nat} {t : Table α} (reset : α) (h : Table.has key t = true) :
    (key, Table.get reset key t) ∈ t := by
  induction t with
  | nil => cases h
  | cons e t ih =>
    obtain ⟨k, v⟩ := e
    by_cases hk : k = key
    · subst hk
      simp [Table.get]
    · have hrest : Table.has key t = true := by simpa [Table.has, hk] using h
      simpa [Table.get, hk] using List.mem_cons_of_mem (k, v) (ih hrest)

theorem BinTable.timer_eq_some_zero {segment : Nat} {t : BinTable} :
    t.timer segment = some 0 ↔ Table.has segment t.held = true ∧ Table.get 0 segment t.held = 0 := by
  unfold BinTable.timer
  split <;> simp [*]

/-- A segment whose timer has not reached 0 stays as it is. -/
theorem State.takeHoldExpiry_of_running {s : State} {segment : Nat} (h : s.table.timer segment ≠ some 0) :
    s.takeHoldExpiry segment = s := if_neg h

theorem State.takeHoldExpiry_timer (s : State) (expired segment : Nat)
    (h : segment = expired ∨ s.table.timer segment ≠ some 0) : (s.takeHoldExpiry expired).table.timer segment ≠ some 0 := by
  unfold State.takeHoldExpiry
  split
  · by_cases he : segment = expired
    · subst he
      have hgone : Table.has segment (Table.erase segment s.table.held) = false := by simp [Table.has, Table.erase]
      exact fun hz => absurd ((BinTable.timer_eq_some_zero.1 hz).1.symm.trans hgone) (by decide)
    · have hkept := h.resolve_left he
      intro hz
      obtain ⟨hhas, hget⟩ := BinTable.timer_eq_some_zero.1 hz
      exact hkept (BinTable.timer_eq_some_zero.2 ⟨(Table.has_erase_other he _).symm.trans hhas,
        (Table.get_erase_other 0 he _).symm.trans hget⟩)
  · next hruns =>
    rcases h with rfl | h
    · exact hruns
    · exact h

theorem State.takeHoldExpiry_held (s : State) (segment : Nat) : (s.takeHoldExpiry segment).table.held ⊆ s.table.held := by
  unfold State.takeHoldExpiry
  split
  · exact fun e he => (List.mem_filter.1 he).1
  · exact fun e he => he

section HoldExpiries

variable (segments : List Nat) (s : State)

theorem State.foldl_takeHoldExpiry_held :
    (segments.foldl (fun t segment => t.takeHoldExpiry segment) s).table.held ⊆ s.table.held := by
  induction segments generalizing s with
  | nil => exact fun e he => he
  | cons segment segments ih => exact fun e he => s.takeHoldExpiry_held segment (ih _ he)

theorem State.foldl_takeHoldExpiry_timer {segment : Nat} (h : segment ∈ segments ∨ s.table.timer segment ≠ some 0) :
    (segments.foldl (fun t segment => t.takeHoldExpiry segment) s).table.timer segment ≠ some 0 := by
  induction segments generalizing s with
  | nil => exact h.resolve_left List.not_mem_nil
  | cons expired segments ih =>
    refine ih _ ?_
    rcases h with h | h
    · rcases List.mem_cons.1 h with rfl | h
      · exact .inr (s.takeHoldExpiry_timer _ _ (.inl rfl))
      · exact .inl h
    · exact .inr (s.takeHoldExpiry_timer _ _ (.inr h))

theorem State.foldl_takeHoldExpiry_of_running (h : ∀ segment, s.table.timer segment ≠ some 0) :
    segments.foldl (fun t segment => t.takeHoldExpiry segment) s = s := by
  induction segments with
  | nil => rfl
  | cons segment segments ih => rw [List.foldl_cons, State.takeHoldExpiry_of_running (h segment), ih]

end HoldExpiries

/-- No event of a tick is outstanding. -/
structure State.Settled (s : State) : Prop where
  timers : ∀ segment, s.table.timer segment ≠ some 0
  countdown : s.sweep.expired = false
  boundary : s.report.boundary = false
  holdoff : s.report.conditions.holdoff ≠ some 0

theorem State.Settled.overdueEvents_eq {s : State} (h : s.Settled) : s.overdueEvents = s := by
  have hauto : s.takeAutoExpiry = s := if_neg (by rw [h.countdown]; decide)
  have hboundary : s.takeBoundary = s := if_neg (by rw [h.boundary]; decide)
  have hholdoff : s.takeHoldoffEnd = s := if_neg h.holdoff
  unfold State.overdueEvents
  rw [s.foldl_takeHoldExpiry_of_running _ h.timers, hauto, hboundary, hholdoff]

theorem SweepEngine.expire_expired (interval : Nat) (e : SweepEngine) : (e.expire interval).expired = false := by
  unfold SweepEngine.expire
  split <;> rfl

theorem State.takeAutoExpiry_expired (s : State) : s.takeAutoExpiry.sweep.expired = false := by
  unfold State.takeAutoExpiry
  split
  · exact SweepEngine.expire_expired _ _
  · next h => exact eq_false_of_ne_true h

theorem State.takeBoundary_boundary (s : State) : s.takeBoundary.report.boundary = false := by
  unfold State.takeBoundary
  split
  · exact foldl_keeps Reporting.boundary _ (fun r n => by simp [Reporting.boundaryTo]) _ _
  · next h => exact eq_false_of_ne_true h

theorem State.takeHoldoffEnd_holdoff (s : State) : s.takeHoldoffEnd.report.conditions.holdoff ≠ some 0 := by
  unfold State.takeHoldoffEnd
  split
  · exact nofun
  · next h => exact h

/-- After the auto countdown, the boundary and the holdoff, only a hold timer can be outstanding. -/
theorem State.settled_of_timers {s : State} (h : ∀ segment, s.table.timer segment ≠ some 0) :
    s.takeAutoExpiry.takeBoundary.takeHoldoffEnd.Settled := by
  have hauto := s.takeAutoExpiry_leaves
  have hboundary := s.takeAutoExpiry.takeBoundary_leaves
  have hend := s.takeAutoExpiry.takeBoundary.takeHoldoffEnd_leaves
  have hheld : s.takeAutoExpiry.takeBoundary.takeHoldoffEnd.table.held = s.table.held :=
    (hend .segments (by decide)).2.trans ((hboundary .segments (by decide)).2.trans (hauto .segments (by decide)).2)
  refine ⟨fun segment => ?_, ?_, ?_, State.takeHoldoffEnd_holdoff _⟩
  · unfold BinTable.timer
    rw [hheld]
    exact h segment
  · have hsweep := (hend .sweep (by decide)).trans (hboundary .sweep (by decide))
    rw [hsweep]
    exact s.takeAutoExpiry_expired
  · have hkept := hend .boundary (by decide)
    exact hkept.trans (State.takeBoundary_boundary _)

theorem State.timer_of_no_segment {s : State} (h : ∀ e ∈ s.table.held, e.1 < 32) {segment : Nat} (hs : 32 ≤ segment) :
    s.table.timer segment ≠ some 0 := fun hz =>
  absurd (h _ (Table.mem_of_has 0 (BinTable.timer_eq_some_zero.1 hz).1)) (Nat.not_lt_of_le hs)

/-- Once they are taken, no event is outstanding (R13, R106, R120, R156). -/
theorem State.overdueEvents_settled {s : State} (h : ∀ e ∈ s.table.held, e.1 < 32) : s.overdueEvents.Settled := by
  unfold State.overdueEvents
  refine State.settled_of_timers fun segment => ?_
  refine State.foldl_takeHoldExpiry_timer _ s ?_
  by_cases hs : segment < 32
  · exact .inl (List.mem_range.2 hs)
  · exact .inr (State.timer_of_no_segment h (Nat.le_of_not_lt hs))

theorem State.overdueEvents_held (s : State) : s.overdueEvents.table.held ⊆ s.table.held := by
  have hkept (u : State) : u.takeAutoExpiry.takeBoundary.takeHoldoffEnd.table.held = u.table.held :=
    (State.takeHoldoffEnd_leaves _ .segments (by decide)).2.trans
      ((State.takeBoundary_leaves _ .segments (by decide)).2.trans (State.takeAutoExpiry_leaves _ .segments (by decide)).2)
  unfold State.overdueEvents
  rw [hkept]
  exact s.foldl_takeHoldExpiry_held _

theorem SweepEngine.tick_of_not_expired {e : SweepEngine} (h : e.expired = false) :
    e.tick = { e with countdown := e.countdown.map fun n => n - 1, expired := e.countdown == some 1 } := by
  unfold SweepEngine.tick
  split
  · next hcountdown =>
    obtain ⟨⟩ := e
    subst hcountdown h
    rfl
  · next n hcountdown => simp [hcountdown, h]

/-- Settles O26: a settled part counts its tick at once, and the events bring any part to a settled one. -/
theorem tickCounts : Obligations.TickCounts := by
  refine ⟨fun s htimers hexpired hboundary hholdoff => ?_, fun s hsegments => ?_⟩
  · have hsettled : s.Settled :=
      { timers := fun segment hz => by
          obtain ⟨hhas, hget⟩ := BinTable.timer_eq_some_zero.1 hz
          exact htimers _ (Table.mem_of_has 0 hhas) hget
        countdown := hexpired, boundary := hboundary, holdoff := hholdoff }
    refine congrArg Host.Outcome.next ?_
    rw [hsettled.overdueEvents_eq, State.countTick, SweepEngine.tick_of_not_expired hexpired, hboundary]
    by_cases hrises : s.mgmt.partTime < 4294967295 <;> simp [State.now, Config.partTimeMax, hrises, Arrival.tested]
  · have hsettled := State.overdueEvents_settled hsegments
    refine ⟨?_, s.overdueEvents_held, fun segment hhas hget =>
      hsettled.timers segment (BinTable.timer_eq_some_zero.2 ⟨hhas, hget⟩), hsettled.countdown, hsettled.boundary,
      hsettled.holdoff⟩
    exact congrArg (fun u => Host.Outcome.next u.countTick) hsettled.overdueEvents_eq.symm

/-- Settles O27: the expiry by the engine's state. -/
theorem autoCountdownExpiryStartsOrOwesASweep : Obligations.AutoCountdownExpiryStartsOrOwesASweep := by
  intro s hexpired
  have htaken : s.takeAutoExpiry = s.onSweep (SweepEngine.expire s.mgmt.params.sweepInterval) := if_pos hexpired
  refine congrArg Host.Outcome.next (htaken.trans ?_)
  unfold State.onSweep SweepEngine.expire
  cases hstate : s.sweep.state with
  | idle => rfl
  | running => simp [hstate]
  | suspended => simp [hstate]

/-! ## Condition notices and CREDIT-OUT -/

/-- Settles O22: the notice sent, and the end of the holdoff. -/
theorem conditionNoticesAreSentAndHeldOff : Obligations.ConditionNoticesAreSentAndHeldOff := by
  refine ⟨fun address s hgrant haddress => ?_, fun s hholdoff => ?_⟩
  · show execConditionNoticeGrant s = _
    unfold execConditionNoticeGrant
    rw [hgrant, haddress]
    rfl
  · have htaken : s.takeHoldoffEnd = _ := if_pos hholdoff
    refine congrArg Host.Outcome.next (htaken.trans ?_)
    have hfollows : (s.report.conditions.gainInHoldoff && s.report.conditions.address.isSome && s.alertSet != 0
        && s.alertSet != s.report.conditions.lastSent) =
          decide (s.report.conditions.gainInHoldoff = true ∧ s.report.conditions.address ≠ none ∧ s.alertSet ≠ 0
            ∧ s.alertSet ≠ s.report.conditions.lastSent) := by
      rw [Bool.eq_iff_iff]
      simp [and_assoc, Option.isSome_iff_ne_none]
    dsimp only
    rw [hfollows]
    rfl

/-- Settles O23: the grant of a channel with a CREDIT-OUT pending. -/
theorem creditOutNoticeIsSent : Obligations.CreditOutNoticeIsSent := by
  intro n notice s hgrant hpending
  show execCreditOutNotice s = _
  unfold execCreditOutNotice
  rw [hgrant]
  dsimp only
  rw [hpending]
  rfl

end Sys2Proof.Machine

/-! The Arrival Filter and the Reading Unit's taking of a reading (R16, R40 to R45), and the two late fill writes (R43,
R51). -/

namespace Sys2Proof.Machine

/-! ## Copies -/

theorem Arrival.isOf_iff {r : Reading} {e : Arrival} : e.isOf r = true ↔ e.bin = r.bin ∧ e.sequence = r.sequence := by
  simp [Arrival.isOf]

theorem ArrivalFilter.knows_of_mem {r : Reading} {f : ArrivalFilter} {e : Arrival} (he : e ∈ f.entries) (hof : e.isOf r = true) :
    f.knows r = true := List.any_eq_true.2 ⟨e, he, hof⟩

theorem ArrivalFilter.knows_eq_false {r : Reading} {f : ArrivalFilter}
    (h : ∀ e ∈ f.entries, ¬ (e.bin = r.bin ∧ e.sequence = r.sequence)) : f.knows r = false :=
  eq_false_of_ne_true fun hknows => by
    obtain ⟨e, he, hof⟩ := List.any_eq_true.1 hknows
    exact h e he (Arrival.isOf_iff.1 hof)

/-- No entry but the one of the transmission is merged. -/
theorem map_merge_of_not_isOf {r : Reading} {entries : List Arrival} (h : ∀ x ∈ entries, x.isOf r = false) :
    (entries.map fun (e : Arrival) => if e.isOf r then e.merge r else e) = entries := by
  refine (List.map_congr_left fun x hx => ?_).trans entries.map_id
  rw [h x hx]
  rfl

/-- Among distinct entries, the one of the transmission is the only one. -/
theorem not_isOf_of_nodup {r : Reading} {before after : List Arrival} {e : Arrival}
    (hnodup : ((before ++ e :: after).map fun x => (x.bin, x.sequence)).Nodup) (hof : e.isOf r = true) :
    (∀ x ∈ before, x.isOf r = false) ∧ ∀ x ∈ after, x.isOf r = false := by
  obtain ⟨hbin, hsequence⟩ := Arrival.isOf_iff.1 hof
  rw [List.map_append, List.map_cons, List.nodup_append, List.nodup_cons] at hnodup
  obtain ⟨-, ⟨hafter, -⟩, hbefore⟩ := hnodup
  have hpair {x : Arrival} (hx : x.isOf r = true) : (x.bin, x.sequence) = (e.bin, e.sequence) := by
    rw [(Arrival.isOf_iff.1 hx).1, (Arrival.isOf_iff.1 hx).2, hbin, hsequence]
  refine ⟨fun x hx => eq_false_of_ne_true fun hxof => ?_, fun x hx => eq_false_of_ne_true fun hxof => ?_⟩
  · exact hbefore _ (List.mem_map_of_mem hx) _ (List.mem_cons_self ..) (hpair hxof)
  · exact hafter (hpair hxof ▸ List.mem_map_of_mem hx)

/-- Settles O28: the entry is the only one of its transmission. -/
theorem copyIsMergedAndDropped : Obligations.CopyIsMergedAndDropped := by
  intro r rest before after e s hhead hentries hnodup hbin hsequence
  have hof : e.isOf r = true := Arrival.isOf_iff.2 ⟨hbin, hsequence⟩
  rw [hentries] at hnodup
  obtain ⟨hbefore, hafter⟩ := not_isOf_of_nodup hnodup hof
  have hknows : s.filter.knows r = true := ArrivalFilter.knows_of_mem (by rw [hentries]; simp) hof
  have hmerged : (s.filter.entries.map fun (e : Arrival) => if e.isOf r then e.merge r else e) =
      before ++ e.merge r :: after := by
    rw [hentries, List.map_append, List.map_cons, map_merge_of_not_isOf hbefore, map_merge_of_not_isOf hafter, if_pos hof]
  show execCopy s = _
  unfold execCopy
  rw [hhead]
  dsimp only
  rw [if_pos hknows]
  unfold State.onFilter
  dsimp only
  rw [hmerged]
  rfl

/-! ## Taking a reading -/

theorem State.exchangeWaits_eq_false {s : State} (h : s.mgmt.stage ≠ .exchange) : s.exchangeWaits = false :=
  beq_eq_false_iff_ne.2 h

theorem State.readerReady_of {s : State} (hidle : s.reader = .idle) (hexchange : s.mgmt.stage ≠ .exchange)
    (hpark : ∀ p ∈ s.table.park, p.released = false) : s.readerReady = true := by
  have hreleased : s.hasReleased = false := by simpa [State.hasReleased] using hpark
  rw [State.readerReady, hidle, State.exchangeWaits_eq_false hexchange, hreleased]
  rfl

theorem takeReleased_append {before after : List Parked} {p : Parked} (hbefore : ∀ q ∈ before, q.released = false)
    (hp : p.released = true) : takeReleased (before ++ p :: after) = some (p, before ++ after) := by
  induction before with
  | nil => simp [takeReleased, hp]
  | cons q before ih =>
    obtain ⟨hq, hrest⟩ := List.forall_mem_cons.1 hbefore
    simp [takeReleased, hq, ih hrest]

/-- Settles O29: the hand-over, the take from the Park List, and the due head entry that stops both. -/
theorem readingUnitTakesItsReadings : Obligations.ReadingUnitTakesItsReadings := by
  refine ⟨fun r rest s hhead hnew hidle hexchange hpark hroom hwaits => ?_,
    fun before after p s hlist hbefore hp hidle hexchange hwaits => ?_, fun e rest s hentries hdue hretiring => ?_⟩
  · have hguard : (!s.filter.knows r && s.readerReady && !s.filter.headWaits
        && decide (s.filter.entries.length < Config.arrivalRoom)) = true := by
      rw [ArrivalFilter.knows_eq_false hnew, State.readerReady_of hidle hexchange hpark,
        (ArrivalFilter.headWaits_eq_false _).2 hwaits]
      exact decide_eq_true hroom
    have hlane : Bits.put r.lane (0 : BitVec 9) = BitVec.twoPow 9 r.lane := BitVec.zero_or
    show execHandOver s = _
    unfold execHandOver
    rw [hhead]
    dsimp only
    rw [if_pos hguard, newArrival, hlane]
    rfl
  · have hguard : s.reader = .idle ∧ s.exchangeWaits = false ∧ s.filter.headWaits = false :=
      ⟨hidle, State.exchangeWaits_eq_false hexchange, (ArrivalFilter.headWaits_eq_false _).2 hwaits⟩
    show execTakeReleasedEntry s = _
    unfold execTakeReleasedEntry
    rw [hlist, takeReleased_append hbefore hp]
    dsimp only
    rw [if_pos hguard]
  · have hheadWaits : s.filter.headWaits = true := by rw [ArrivalFilter.headWaits, hretiring, hentries]; exact hdue
    constructor
    · show execHandOver s = _
      unfold execHandOver
      split
      · rfl
      · rw [if_neg]
        simp [hheadWaits]
    · show execTakeReleasedEntry s = _
      unfold execTakeReleasedEntry
      split
      · rfl
      · rw [if_neg]
        simp [hheadWaits]

/-! ## Retirement -/

theorem ArrivalFilter.retireHead_cons {f : ArrivalFilter} {e : Arrival} {rest : List Arrival} (hentries : f.entries = e :: rest)
    (hretiring : f.retiring = none) (why : Retirement) :
    f.retireHead why =
      match e.generation with
      | none => { entries := rest, retiring := none }
      | some _ => { entries := e :: rest, retiring := some why } := by
  unfold ArrivalFilter.retireHead
  rw [hentries]
  dsimp only
  cases e.generation with
  | none => simp [hretiring]
  | some generation => rfl

/-- The Reading Unit holds the reading made from an entry. -/
theorem State.inFlight_iff {s : State} {e : Arrival} :
    s.inFlight e = true ↔
      ∃ t, s.reader.holding = some t ∧ t.source = .arrivals ∧ t.reading.bin = e.bin ∧ t.reading.sequence = e.sequence := by
  unfold State.inFlight
  cases s.reader.holding with
  | none => simp
  | some t =>
    simp only [Bool.and_eq_true, beq_iff_eq, Arrival.isOf_iff, Option.some.injEq, exists_eq_left',
      eq_comm (a := e.bin), eq_comm (a := e.sequence)]

section Retiring

variable {s : State} {e : Arrival} {rest : List Arrival}

/-- What the head entry's retirement makes of the state, in the words of R43. -/
def State.headRetired (e : Arrival) (rest : List Arrival) (why : Retirement) (s : State) : State :=
  { s with
    filter :=
      match e.generation with
      | none => { entries := rest, retiring := none }
      | some _ => { entries := e :: rest, retiring := some why } }

theorem State.onFilter_retireHead (hentries : s.filter.entries = e :: rest) (hretiring : s.filter.retiring = none)
    (why : Retirement) : s.onFilter (ArrivalFilter.retireHead why) = s.headRetired e rest why :=
  congrArg (fun f => { s with filter := f }) (ArrivalFilter.retireHead_cons hentries hretiring why)

/-- A due head entry whose reading the Reading Unit does not hold expires (R42, R43). -/
theorem execEntryDue_of_due (hentries : s.filter.entries = e :: rest) (hretiring : s.filter.retiring = none)
    (hdue : e.due = true)
    (hholds : ∀ t, s.reader.holding = some t →
      ¬ (t.source = .arrivals ∧ t.reading.bin = e.bin ∧ t.reading.sequence = e.sequence)) :
    execEntryDue s = .next (s.headRetired e rest .expiry) := by
  have hfree : s.inFlight e = false := eq_false_of_ne_true fun hflight => by
    obtain ⟨t, ht, hsource⟩ := State.inFlight_iff.1 hflight
    exact hholds t ht hsource
  unfold execEntryDue
  rw [hentries]
  dsimp only
  rw [if_pos ⟨hretiring, hdue, hfree⟩, State.onFilter_retireHead hentries hretiring]

/-- A new transmission that waits for room evicts the head entry (R41, R43). -/
theorem execEviction_of_full {r : Reading} {more : List Reading} (hentries : s.filter.entries = e :: rest)
    (hretiring : s.filter.retiring = none) (hhead : s.field.ingress = r :: more)
    (hnew : ∀ x ∈ s.filter.entries, ¬ (x.bin = r.bin ∧ x.sequence = r.sequence)) (hidle : s.reader = .idle)
    (hexchange : s.mgmt.stage ≠ .exchange) (hpark : ∀ p ∈ s.table.park, p.released = false)
    (hfull : 256 ≤ s.filter.entries.length) :
    execEviction s = .next ((s.headRetired e rest .eviction).count .eviction 1) := by
  have hguard : (!s.filter.knows r && s.readerReady && decide (Config.arrivalRoom ≤ s.filter.entries.length)
      && s.filter.retiring.isNone) = true := by
    rw [ArrivalFilter.knows_eq_false hnew, State.readerReady_of hidle hexchange hpark, hretiring, decide_eq_true hfull]
    rfl
  unfold execEviction
  rw [hhead]
  dsimp only
  rw [if_pos hguard, State.onFilter_retireHead hentries hretiring]

end Retiring

/-- Settles O30: both retirements, and what keeps an entry from expiring. -/
theorem headEntryRetires : Obligations.HeadEntryRetires := by
  constructor
  · intro e rest s hentries hretiring retired
    constructor
    · exact fun hdue hholds => execEntryDue_of_due hentries hretiring hdue hholds
    · exact fun r more hhead hnew hidle hexchange hpark hfull =>
        execEviction_of_full hentries hretiring hhead hnew hidle hexchange hpark hfull
  · intro e rest s hentries hwaits
    show execEntryDue s = _
    unfold execEntryDue
    rw [hentries]
    dsimp only
    rw [if_neg]
    rintro ⟨hnone, hdue, hfree⟩
    rcases hwaits with hnot | hretiring | hholds
    · exact absurd (hdue.symm.trans hnot) (by decide)
    · exact hretiring hnone
    · exact absurd (hfree.symm.trans (State.inFlight_iff.2 hholds)) (by decide)

/-! ## The late writes -/

@[simp] theorem State.writeThrough_bin_self (s : State) (r : Requester) (n : Nat) (wear : Wear) :
    (s.writeThrough r n wear).bin n = s.writtenBin n wear := State.setBin_bin_self _ _ _

/-- What an access that finds damage does reaches the Bin Table and the reporting blocks alone. -/
theorem State.foundDamaged_leaves (s : State) (r : Requester) (test : Bool) (n : Nat) (wear : Wear) :
    s.leavesBut accessParts (s.foundDamaged r test n wear) := by
  have hdamage (b : Bin) : s.leavesBut accessParts ((((s.granted r).setBin n b).count .recordDamage 1).raise .eccDamage) :=
    State.leavesBut_step (State.leavesBut_step (State.leavesBut_step (State.leavesBut_mono (s.granted_leaves r) (by decide))
      (State.setBin_leaves _ _ _) (by decide)) (State.count_leaves _ _ _) (by decide)) (State.raise_leaves _ _) (by decide)
  unfold State.foundDamaged
  dsimp only
  split
  · exact State.leavesBut_step (State.leavesBut_step (State.leavesBut_step (hdamage _) (State.setBin_leaves _ _ _) (by decide))
      (State.postChange_leaves _ _ _) (by decide)) (State.notify_leaves _ _ _ _ _ _ _) (by decide)
  · exact hdamage _

/-- The write-back, whatever its access found. -/
theorem execWriteBack_of_grant {s : State} {e : Arrival} {rest : List Arrival} {why : Retirement} (wear : Wear)
    (hentries : s.filter.entries = e :: rest) (hretiring : s.filter.retiring = some why)
    (hgrant : s.portGrant = some .arrivalFilter) :
    execWriteBack wear s =
      let t := (s.granted .arrivalFilter).access .write false e.bin wear
      let b := t.bin e.bin
      if s.finding .write e.bin wear ≠ .damaged ∧ b.fill.lastSequence = some e.sequence
          ∧ some b.generation = e.generation ∧ t.isHeld e.bin = false then
        .next (((t.setBin e.bin { b with fill := { b.fill with reception := some e.reception } }).onFilter
          ArrivalFilter.dropHead).count .writeBack 1)
      else .next ((t.onFilter ArrivalFilter.dropHead).count .writeBackSkipped 1) := by
  unfold execWriteBack
  rw [hretiring, hentries]
  dsimp only
  rw [if_pos hgrant]

/-- The retired head leaves the list. -/
theorem State.onFilter_dropHead {s t : State} {e : Arrival} {rest : List Arrival} (hfilter : t.filter = s.filter)
    (hentries : s.filter.entries = e :: rest) :
    t.onFilter ArrivalFilter.dropHead = { t with filter := { entries := rest, retiring := none } } := by
  rw [State.onFilter, hfilter, ArrivalFilter.dropHead, hentries]
  rfl

/-- Settles O31: the two writes over a record that its repair, if any, finds readable, and over a damaged one. -/
theorem lateWritesCheckTheirBin : Obligations.LateWritesCheckTheirBin := by
  constructor
  · intro e rest why wear s _ hentries hretiring hgrant b leaves left damaged
    constructor
    · intro hfine
      show execWriteBack wear s = _
      rw [execWriteBack_of_grant wear hentries hretiring hgrant, State.access_writable s .arrivalFilter false e.bin hfine]
      dsimp only
      have hfound : s.finding .write e.bin wear ≠ .damaged := fun h => hfine ((s.finding_write_damaged _ _).1 h)
      rw [State.writeThrough_bin_self]
      by_cases hmade : b.fill.lastSequence = some e.sequence ∧ e.generation = some b.generation ∧ s.isHeld e.bin = false
      · obtain ⟨hsequence, hgeneration, hheld⟩ := hmade
        rw [if_pos ⟨hfound, hsequence, hgeneration.symm, hheld⟩, if_pos ⟨hsequence, hgeneration, hheld⟩,
          State.onFilter_dropHead ?_ hentries]
        · rfl
        · rfl
      · rw [if_neg fun ⟨_, hsequence, hgeneration, hheld⟩ => hmade ⟨hsequence, hgeneration.symm, hheld⟩, if_neg hmade,
          State.onFilter_dropHead ?_ hentries]
        rfl
    · intro hdamaged
      have hfound : s.finding .write e.bin wear = .damaged := (s.finding_write_damaged _ _).2 hdamaged
      show execWriteBack wear s = _
      rw [execWriteBack_of_grant wear hentries hretiring hgrant,
        State.access_damaged s .arrivalFilter (by decide) false e.bin hfound]
      dsimp only
      rw [if_neg fun h => h.1 hfound,
        State.onFilter_dropHead (s.foundDamaged_leaves .arrivalFilter false e.bin wear .filter (by decide)) hentries]
  · intro t generation run wear s _ hreader hgrant n b u damaged
    constructor
    · intro hfine
      show execRunWrite wear s = _
      unfold execRunWrite
      rw [hreader]
      dsimp only
      rw [if_pos hgrant, State.access_writable s .readingUnit false t.reading.bin hfine, State.writeThrough_bin_self]
      split <;> rfl
    · intro hdamaged
      have hfound : s.finding .write n wear = .damaged := (s.finding_write_damaged _ _).2 hdamaged
      have hactive : ((s.foundDamaged .readingUnit false n wear).bin n).fill.service ≠ .active := by
        rw [← State.access_damaged s .readingUnit (by decide) false n hfound]
        exact State.access_damaged_not_active (s.granted .readingUnit) (by decide) false hfound
      show execRunWrite wear s = _
      unfold execRunWrite
      rw [hreader]
      dsimp only
      rw [if_pos hgrant, State.access_damaged s .readingUnit (by decide) false t.reading.bin hfound,
        if_neg fun h => hactive h.2]
      rfl

end Sys2Proof.Machine

/-! Record reads, and the requests on bins (R6 to R8, R17 to R24, R47): what a command does besides its access counts other
counters and lowers no flag. -/

namespace Sys2Proof.Machine

/-! ## Counters and flags that only grow -/

/-- From one report to another no flag falls, and only the listed counters count. -/
structure Reporting.Grows (counted : List Ctr) (r r' : Reporting) : Prop where
  flags : ∀ f : Flag, Bits.has f.index r.conditions.raised = true → Bits.has f.index r'.conditions.raised = true
  counters : ∀ c : Ctr, c ∉ counted → r'.conditions.counter c.index = r.conditions.counter c.index

section Grows

variable {counted more : List Ctr} {r r' r'' : Reporting}

theorem Reporting.Grows.refl (counted : List Ctr) (r : Reporting) : r.Grows counted r := ⟨fun _ h => h, fun _ _ => rfl⟩

theorem Reporting.Grows.trans (h : r.Grows counted r') (g : r'.Grows counted r'') : r.Grows counted r'' :=
  ⟨fun f hf => g.flags f (h.flags f hf), fun c hc => (g.counters c hc).trans (h.counters c hc)⟩

theorem Reporting.Grows.mono (h : r.Grows counted r') (hsub : counted ⊆ more) : r.Grows more r' :=
  ⟨h.flags, fun c hc => h.counters c fun hin => hc (hsub hin)⟩

theorem Reporting.grows_of_conditions (h : r'.conditions = r.conditions) : r.Grows counted r' :=
  ⟨fun _ hf => by rwa [h], fun _ _ => by rw [h]⟩

theorem Reporting.grows_count (r : Reporting) {c : Ctr} (hc : c ∈ counted) (n : Nat) : r.Grows counted (r.count c n) where
  flags _ h := h
  counters d hd := by
    rw [Reporting.count_conditions, ConditionUnit.count_counter, if_neg]
    rintro rfl
    exact hd hc

theorem Reporting.grows_raise (r : Reporting) (f : Flag) : r.Grows counted (r.raise f) where
  flags g h := by rw [Reporting.raise_conditions, ConditionUnit.raise_raised, h, Bool.or_true]
  counters c _ := by rw [Reporting.raise_conditions, ConditionUnit.raise_counter]

theorem Reporting.grows_setChannel (r : Reporting) (n : Nat) (c : Channel) : r.Grows counted (r.setChannel n c) :=
  Reporting.grows_of_conditions rfl

theorem Reporting.grows_settle (r : Reporting) (now n : Nat) : r.Grows counted (r.settle now n) := by
  rcases r.settle_cases now n with ⟨_, h⟩ | ⟨_, h⟩
  · rw [h]
    exact .refl counted r
  · rw [h]
    exact (r.grows_setChannel n _).trans (Reporting.grows_raise _ _)

theorem Reporting.grows_foldl {α : Type} {f : Reporting → α → Reporting} (h : ∀ (r : Reporting) x, r.Grows counted (f r x)) (l : List α)
    (r : Reporting) : r.Grows counted (l.foldl f r) := by
  induction l generalizing r with
  | nil => exact .refl counted r
  | cons x l ih => exact (h r x).trans (ih _)

theorem Reporting.grows_offerZone (r : Reporting) (now zone : Nat) : r.Grows counted (r.offerZone now zone) := by
  refine Reporting.grows_foldl (fun r n => ?_) _ _
  unfold Reporting.offerZoneTo
  dsimp only
  split
  · exact (r.grows_setChannel n _).trans (Reporting.grows_settle _ now n)
  · exact .refl counted r

theorem Reporting.grows_offerNotice (r : Reporting) (now : Nat) (x : Notice) : r.Grows counted (r.offerNotice now x) := by
  refine Reporting.grows_foldl (fun r n => ?_) _ _
  unfold Reporting.offerNoticeTo
  dsimp only
  split
  · split
    · exact (r.grows_setChannel n _).trans (Reporting.grows_settle _ now n)
    · exact (r.grows_setChannel n _).trans (Reporting.grows_raise _ .reportLost)
  · exact .refl counted r

/-- A notice that is selected is counted as made. -/
theorem Reporting.grows_notify (r : Reporting) (now : Nat) (selected : Bool) (x : Notice) :
    r.Grows [.notice, .noticeWithheld] (r.notify now selected x) := by
  unfold Reporting.notify
  split
  · exact (r.grows_count (by decide) 1).trans (Reporting.grows_offerNotice _ _ _)
  · exact r.grows_count (by decide) 1

theorem Reporting.changeTally_conditions (r : Reporting) (zone : Option Nat) (f : Tally → Tally) :
    (r.changeTally zone f).conditions = r.conditions := by
  cases zone <;> rfl

/-- A contribution change counts its triggers alone. -/
theorem Reporting.grows_applyChange (r : Reporting) (now step : Nat) (old new : Contribution) :
    r.Grows [.zoneTrigger] (r.applyChange now step old new) := by
  unfold Reporting.applyChange
  split
  · exact .refl _ r
  · refine Reporting.Grows.trans (r' := r.moveContribution old new) (Reporting.grows_of_conditions ?_)
      (Reporting.grows_foldl (fun r' z => ?_) _ _)
    · unfold Reporting.moveContribution
      rw [Reporting.changeTally_conditions, Reporting.changeTally_conditions]
    · unfold Reporting.testZone
      dsimp only
      split
      · have hset (t : Tally) : r'.Grows [.zoneTrigger] (r'.setTally z t) := Reporting.grows_of_conditions rfl
        exact ((hset _).trans (Reporting.grows_count _ (by decide) 1)).trans (Reporting.grows_offerZone _ _ _)
      · exact .refl _ r'

end Grows

theorem State.grows_notify (s : State) (selection : BitVec 6) (bin : Nat) (kind : Option BinKind) (test : Bool) (g : FillState)
    (k : NoticeKind) : s.report.Grows [.notice, .noticeWithheld] (s.notify selection bin kind test g k).report := by
  unfold State.notify
  split
  · exact .refl _ _
  · exact Reporting.grows_notify _ _ _ _

/-- A FAULT notice of a bin with a counted zone is made and counted (R83). -/
theorem State.notify_fault_counter (s : State) (bin : Nat) (kind : Option BinKind) (test : Bool) {g : FillState}
    (h : g.countedZone ≠ none) : (s.notify 0 bin kind test g .fault).counter .notice = (s.counter .notice).rise 1 := by
  obtain ⟨zone, hzone⟩ := Option.ne_none_iff_exists'.1 h
  unfold State.notify FillState.notice
  rw [hzone]
  have hoffer := Reporting.grows_offerNotice (counted := []) (s.report.count .notice 1) s.now
    { notice := .fault, bin := bin, zone := zone, kind := kind, filtered := g.filtered, level := g.level
      stale := g.stale, fallen := g.fallen, partTime := s.now, test := test }
  exact (hoffer.counters .notice List.not_mem_nil).trans ((s.count_counter .notice .notice 1).trans (if_pos rfl))

/-! ## Accesses that read the record -/

section Reads

variable (s : State) (r : Requester) (n : Nat) {wear : Wear}

theorem State.readThrough_corrected (h : worn wear (s.bin n).badBits = 1 ∧ (s.bin n).repair = false) :
    s.readThrough r n wear =
      (((s.granted r).setBin n { s.bin n with repair := true, badBits := 1 }).count .recordCorrection 1).raise .eccFix :=
  if_pos h

theorem State.readThrough_rewritten (h : ¬ (worn wear (s.bin n).badBits = 1 ∧ (s.bin n).repair = false)) :
    s.readThrough r n wear = (s.granted r).setBin n { s.bin n with repair := false, badBits := 0 } :=
  if_neg h

/-- A readable record is read as it is: only the mark and the check may change. -/
theorem State.readThrough_bin (wear : Wear) :
    ∃ repair badBits, (s.readThrough r n wear).bin n = { s.bin n with repair := repair, badBits := badBits } := by
  by_cases h : worn wear (s.bin n).badBits = 1 ∧ (s.bin n).repair = false
  · exact ⟨_, _, by rw [s.readThrough_corrected r n h, State.raise_bin, State.count_bin, State.setBin_bin_self]⟩
  · exact ⟨_, _, by rw [s.readThrough_rewritten r n h, State.setBin_bin_self]⟩

@[simp] theorem State.readThrough_record (wear : Wear) : ((s.readThrough r n wear).bin n).record = (s.bin n).record := by
  obtain ⟨_, _, h⟩ := s.readThrough_bin r n wear
  rw [h]

@[simp] theorem State.readThrough_generation (wear : Wear) :
    ((s.readThrough r n wear).bin n).generation = (s.bin n).generation := by
  obtain ⟨_, _, h⟩ := s.readThrough_bin r n wear
  rw [h]

@[simp] theorem State.readThrough_fill (wear : Wear) : ((s.readThrough r n wear).bin n).fill = (s.bin n).fill := by
  obtain ⟨_, _, h⟩ := s.readThrough_bin r n wear
  rw [h]

theorem State.readThrough_leaves (wear : Wear) : s.leavesBut [.port, .bins, .conditions, .counters] (s.readThrough r n wear) := by
  have hset (b : Bin) : s.leavesBut [.port, .bins, .conditions, .counters] ((s.granted r).setBin n b) :=
    State.leavesBut_step (State.leavesBut_mono (s.granted_leaves r) (by decide)) (State.setBin_leaves _ _ _) (by decide)
  by_cases h : worn wear (s.bin n).badBits = 1 ∧ (s.bin n).repair = false
  · rw [s.readThrough_corrected r n h]
    exact State.leavesBut_step (State.leavesBut_step (hset _) (State.count_leaves _ _ _) (by decide)) (State.raise_leaves _ _)
      (by decide)
  · rw [s.readThrough_rewritten r n h]
    exact hset _

/-- The bin after an access that found it damaged (R7, R8). -/
theorem State.foundDamaged_bin (test : Bool) (wear : Wear) :
    (s.foundDamaged r test n wear).bin n =
      { s.bin n with
        repair := false, badBits := worn wear (s.bin n).badBits
        fill := if (s.bin n).fill.service = .active then (s.bin n).fill.faulted else (s.bin n).fill } := by
  unfold State.foundDamaged
  dsimp only
  split
  · rw [State.notify_bin, State.postChange_bin, State.setBin_bin_self]
    rfl
  · rw [State.raise_bin, State.count_bin, State.setBin_bin_self]

end Reads

/-! ## What a command does after its record read -/

/-- The counters that a command may count after its record read. -/
def afterRead : List Ctr :=
  [.parkedReading, .parkOverflow, .faultDrop, .unknownBin, .tagMismatch, .testRefused, .repeated, .outOfOrder, .sweepVisit,
    .sweepSkip, .sweepEnd]

/-- What follows a record read leaves the bins and what the read counted and raised. -/
structure State.GoesOn (u t : State) : Prop where
  bins : t.table.bins = u.table.bins
  report : u.report.Grows afterRead t.report

section GoesOn

variable {u v t : State}

theorem State.GoesOn.trans (h : u.GoesOn v) (g : v.GoesOn t) : u.GoesOn t := ⟨g.bins.trans h.bins, h.report.trans g.report⟩

theorem State.goesOn_of_same (hbins : t.table.bins = u.table.bins) (hreport : t.report = u.report) : u.GoesOn t :=
  ⟨hbins, Reporting.grows_of_conditions (congrArg Reporting.conditions hreport)⟩

theorem State.goesOn_count (u : State) {c : Ctr} (hc : c ∈ afterRead) : u.GoesOn (u.count c 1) :=
  ⟨rfl, u.report.grows_count hc 1⟩

theorem State.goesOn_reply (u : State) (result : ResultCode) (content : List Octet) : u.GoesOn (u.reply result content) :=
  State.goesOn_of_same (u.reply_leaves result content .bins (by decide)) (State.reply_report u result content)

theorem State.goesOn_dropReading (u : State) {c : Ctr} (hc : c ∈ afterRead) : u.GoesOn (u.dropReading c) :=
  (u.goesOn_count hc).trans (State.goesOn_of_same rfl rfl)

theorem State.goesOn_park (u : State) (t : Taken) : u.GoesOn (u.park t) := by
  unfold State.park
  split
  · exact State.GoesOn.trans (v := { u with table := u.table.parked u.now t }) (State.goesOn_of_same rfl rfl)
      (State.goesOn_dropReading _ (by decide))
  · exact State.GoesOn.trans (v := u.raise .parkFull) ⟨rfl, u.report.grows_raise .parkFull⟩
      (State.goesOn_dropReading _ (by decide))

theorem State.goesOn_checkSequence (u : State) (t : Taken) (b : Bin) : u.GoesOn (u.checkSequence t b) := by
  unfold State.checkSequence
  split
  · exact u.goesOn_dropReading (by decide)
  · exact (u.goesOn_count (by decide)).trans (State.goesOn_of_same rfl rfl)
  · exact State.goesOn_of_same rfl rfl

theorem State.goesOn_checkReading (u : State) (t : Taken) (b : Bin) : u.GoesOn (u.checkReading t b) := by
  unfold State.checkReading
  split
  · exact u.goesOn_dropReading (by decide)
  · split
    · exact u.goesOn_dropReading (by decide)
    · split
      · exact u.goesOn_dropReading (by decide)
      · split
        · exact u.goesOn_dropReading (by decide)
        · split
          · exact u.goesOn_park t
          · exact u.goesOn_checkSequence t b

theorem State.goesOn_endVisit (u : State) : u.GoesOn u.endVisit := by
  have hvisited : u.GoesOn ((u.count .sweepVisit 1).onSweep
      (SweepEngine.afterVisit u.mgmt.params.sweepInterval (u.mgmt.stage == .suspend))) :=
    (u.goesOn_count (by decide)).trans (State.goesOn_of_same rfl rfl)
  have hended := hvisited.trans (State.goesOn_count _ (c := .sweepEnd) (by decide))
  unfold State.endVisit
  dsimp only
  split <;> split
  · exact hended.trans (State.goesOn_reply _ _ _)
  · exact hvisited.trans (State.goesOn_reply _ _ _)
  · exact hended
  · exact hvisited

theorem State.goesOn_judgeVisit (u : State) (b : Bin) : u.GoesOn (u.judgeVisit b) := by
  unfold State.judgeVisit
  split
  · exact (u.goesOn_count (by decide)).trans (State.goesOn_endVisit _)
  · split
    · exact u.goesOn_endVisit
    · split
      · exact u.goesOn_endVisit
      · split
        · exact State.goesOn_of_same rfl rfl
        · exact u.goesOn_endVisit

theorem State.goesOn_useFree (u : State) (n : Nat) : u.GoesOn (u.useFree n) := by
  unfold State.useFree
  split <;> exact State.goesOn_of_same rfl rfl

theorem State.goesOn_lockAndReply (u : State) (reason : LockReason) (number : Nat) :
    u.GoesOn (u.lockAndReply reason number) := by
  have hraised (k : ConditionUnit) : k.lockRises.raised = k.raised := by
    unfold ConditionUnit.lockRises
    split <;> simp
  unfold State.lockAndReply
  refine State.GoesOn.trans ?_ (State.goesOn_reply _ _ _)
  refine ⟨rfl, ⟨fun f hf => ?_, fun c _ => ?_⟩⟩
  · show Bits.has f.index u.report.conditions.lockRises.raised = true
    rwa [hraised]
  · exact congrArg (Table.get Counter.zero c.index) (State.lockRises_counters _)

end GoesOn

/-- The record fetch reads its bin's record in its grant. -/
theorem execRecordFetch_of_grant {s : State} {t : Taken} (wear : Wear) (hreader : s.reader = .fetch t)
    (hgrant : s.portGrant = some .readingUnit) :
    execRecordFetch wear s =
      let u := (s.granted .readingUnit).access .read t.reading.isTest t.reading.bin wear
      if s.finding .read t.reading.bin wear = .damaged then .next (u.dropReading .faultDrop)
      else .next (u.checkReading t (u.bin t.reading.bin)) := by
  unfold execRecordFetch
  rw [hreader]
  dsimp only
  rw [if_pos hgrant]
  cases s.finding .read t.reading.bin wear <;> rfl

/-- The visit reads its bin's record in its grant. -/
theorem execVisit_of_grant {s : State} (wear : Wear) (hstage : s.sweep.stage = .read) (hgrant : s.portGrant = some .sweepEngine) :
    execVisit wear s =
      let t := (s.granted .sweepEngine).access .read false s.sweep.cursor wear
      if s.finding .read s.sweep.cursor wear = .damaged then .next t.endVisit
      else .next (t.judgeVisit (t.bin t.sweep.cursor)) := by
  unfold execVisit
  rw [if_pos ⟨hstage, hgrant⟩]
  dsimp only
  cases s.finding .read s.sweep.cursor wear <;> rfl

/-- Every record read is an access of kind read, and the command then goes on from it. -/
theorem exec_recordRead {c : Instr} {n : Nat} {wear : Wear} {s : State} (h : s.recordRead c = some (n, wear)) :
    ∃ requester test t, exec c s = .next t ∧ ((s.granted requester).access .read test n wear).GoesOn t := by
  cases c with
  | recordFetch w =>
    obtain ⟨t, hreader, hgrant, rfl, rfl⟩ : ∃ t, s.reader = .fetch t ∧ s.portGrant = some .readingUnit
        ∧ t.reading.bin = n ∧ w = wear := by
      unfold State.recordRead at h
      split at h <;> simp_all
    refine ⟨.readingUnit, t.reading.isTest, ?_⟩
    have hexec := execRecordFetch_of_grant w hreader hgrant
    dsimp only at hexec
    split at hexec
    · exact ⟨_, hexec, State.goesOn_dropReading _ (by decide)⟩
    · exact ⟨_, hexec, State.goesOn_checkReading _ _ _⟩
  | visit w =>
    obtain ⟨hgrant, hstage, rfl, rfl⟩ : s.portGrant = some .sweepEngine ∧ s.sweep.stage = .read ∧ s.sweep.cursor = n
        ∧ w = wear := by
      unfold State.recordRead at h
      split at h <;> simp_all
    refine ⟨.sweepEngine, false, ?_⟩
    have hexec := execVisit_of_grant w hstage hgrant
    dsimp only at hexec
    split at hexec
    · exact ⟨_, hexec, State.goesOn_endVisit _⟩
    · exact ⟨_, hexec, State.goesOn_judgeVisit _ _⟩
  | convertedRead w =>
    obtain ⟨hgrant, hstage, rfl⟩ : s.portGrant = some .managementUnit ∧ s.mgmt.stage = .converted n ∧ w = wear := by
      unfold State.recordRead at h
      split at h <;> simp_all
    refine ⟨.managementUnit, false, ?_⟩
    show ∃ t, execConvertedRead w s = .next t ∧ _
    unfold execConvertedRead
    rw [hstage]
    dsimp only
    rw [if_pos hgrant]
    split <;> exact ⟨_, rfl, State.goesOn_reply _ _ _⟩
  | binReadAccess w =>
    obtain ⟨hgrant, hstage, rfl⟩ : s.portGrant = some .managementUnit ∧ s.mgmt.stage = .binRead n ∧ w = wear := by
      unfold State.recordRead at h
      split at h <;> simp_all
    refine ⟨.managementUnit, false, ?_⟩
    show ∃ t, execBinReadAccess w s = .next t ∧ _
    unfold execBinReadAccess
    rw [hstage]
    dsimp only
    rw [if_pos hgrant]
    split <;> exact ⟨_, rfl, (State.goesOn_reply _ _ _).trans (State.goesOn_useFree _ _)⟩
  | binScan w =>
    obtain ⟨hgrant, hstage, rfl⟩ : s.portGrant = some .managementUnit ∧ s.mgmt.stage = .scan n ∧ w = wear := by
      unfold State.recordRead at h
      split at h <;> simp_all
    refine ⟨.managementUnit, false, ?_⟩
    show ∃ t, execBinScan w s = .next t ∧ _
    unfold execBinScan
    rw [hstage]
    dsimp only
    rw [if_pos hgrant]
    split
    · exact ⟨_, rfl, State.goesOn_lockAndReply _ _ _⟩
    · exact ⟨_, rfl, State.goesOn_of_same rfl rfl⟩
  | _ => simp [State.recordRead] at h

section Found

variable (s : State) (r : Requester) (test : Bool) (n : Nat) {wear : Wear}

theorem State.granted_access_bin_other {m : Nat} (hm : m ≠ n) (kind : AccessKind) (wear : Wear) :
    ((s.granted r).access kind test n wear).bin m = s.bin m := State.access_bin_other _ kind test hm wear

/-- What an access that finds damage counts and raises before the FAULT entry. -/
theorem State.foundDamaged_grows (wear : Wear) :
    ((s.report.count .recordDamage 1).raise .eccDamage).Grows [.zoneTrigger, .notice, .noticeWithheld]
      (s.foundDamaged r test n wear).report := by
  unfold State.foundDamaged
  dsimp only
  split
  · refine Reporting.Grows.trans ?_ (Reporting.Grows.mono (State.grows_notify _ _ _ _ _ _ _) ?_)
    · exact Reporting.Grows.mono (Reporting.grows_applyChange _ _ _ _ _) (by decide)
    · decide
  · exact .refl _ _

theorem State.foundDamaged_notice (wear : Wear) (hactive : (s.bin n).fill.service = .active)
    (hzone : (s.bin n).fill.countedZone ≠ none) :
    (s.foundDamaged r test n wear).counter .notice = (s.counter .notice).rise 1 := by
  unfold State.foundDamaged
  dsimp only
  rw [if_pos hactive, State.notify_fault_counter _ _ _ _ (by exact hzone)]
  refine congrArg (Counter.rise 1) ?_
  have hchange := Reporting.grows_applyChange ((s.report.count .recordDamage 1).raise .eccDamage) s.now
    s.mgmt.params.summaryStep (s.bin n).fill.contribution (s.bin n).fill.faulted.contribution
  refine (hchange.counters .notice (by decide)).trans ?_
  rw [Reporting.raise_conditions, ConditionUnit.raise_counter, Reporting.count_conditions, ConditionUnit.count_counter,
    if_neg (by decide)]
  rfl

end Found

/-- Settles O33: the record read is an access, and what follows it leaves the bin, its counts and its flag. -/
theorem recordReadsTestTheRecord : Obligations.RecordReadsTestTheRecord := by
  intro c n wear s hread b
  obtain ⟨requester, test, t, hexec, hgoes⟩ := exec_recordRead hread
  have hbin (m : Nat) : t.bin m = ((s.granted requester).access .read test n wear).bin m :=
    congrArg (Table.get Bin.reset m) hgoes.bins
  have hreadable (h : worn wear b.badBits ≤ 1) :
      (s.granted requester).access .read test n wear = s.readThrough requester n wear :=
    s.access_readable requester (by decide) test n h
  have hdamaged (h : worn wear b.badBits = 2) :
      (s.granted requester).access .read test n wear = s.foundDamaged requester test n wear :=
    s.access_damaged requester (by decide) test n ((s.finding_damaged (by decide) n wear).2 (Nat.le_of_eq h.symm))
  have hsame : (t.bin n).record = b.record ∧ (t.bin n).generation = b.generation := by
    rw [hbin]
    by_cases h : worn wear b.badBits ≤ 1
    · rw [hreadable h]
      exact ⟨s.readThrough_record .., s.readThrough_generation ..⟩
    · have hfound := (s.finding_damaged (kind := .read) (by decide) n wear).2 (Nat.lt_of_not_le h)
      rw [s.access_damaged requester (by decide) test n hfound, State.foundDamaged_bin]
      exact ⟨rfl, rfl⟩
  refine ⟨t, hexec, hsame.1, hsame.2, fun m hm => (hbin m).trans (s.granted_access_bin_other requester test n hm .read wear),
    fun hgood => ?good, fun hone hrepair => ?corrected, fun htwo => ?damaged⟩
  case good =>
    have hle : worn wear b.badBits ≤ 1 := by omega
    have hnot : ¬ (worn wear b.badBits = 1 ∧ b.repair = false) := fun ⟨hone, hrepair⟩ => by
      rcases hgood with hzero | ⟨-, hmark⟩
      · omega
      · exact absurd (hrepair.symm.trans hmark) (by decide)
    have haccess := (hreadable hle).trans (s.readThrough_rewritten requester n hnot)
    have hreport := hgoes.report
    rw [haccess] at hreport
    refine ⟨?_, hreport.counters _ (by decide), hreport.counters _ (by decide)⟩
    rw [hbin, haccess, State.setBin_bin_self]
  case corrected =>
    have haccess := (hreadable (Nat.le_of_eq hone)).trans (s.readThrough_corrected requester n ⟨hone, hrepair⟩)
    have hreport := hgoes.report
    rw [haccess] at hreport
    refine ⟨?_, (hreport.counters .recordCorrection (by decide)).trans ?_,
      (hreport.counters .recordDamage (by decide)).trans ?_, hreport.flags .eccFix ?_⟩
    · rw [hbin, haccess, State.raise_bin, State.count_bin, State.setBin_bin_self]
    · exact (State.raise_counter _ _ _).trans ((State.count_counter _ _ _ _).trans (if_pos rfl))
    · exact (State.raise_counter _ _ _).trans ((State.count_counter _ _ _ _).trans (if_neg (by decide)))
    · rw [State.raise_report, Reporting.raise_conditions, ConditionUnit.raise_raised]
      rfl
  case damaged =>
    have haccess := hdamaged htwo
    have hreport := hgoes.report
    have hgrows := s.foundDamaged_grows requester test n wear
    rw [haccess] at hreport
    refine ⟨?_, ?_, ?_, hreport.flags .eccDamage (hgrows.flags .eccDamage ?_), fun hactive hzone => ?_,
      fun reading hc hreader => ?_⟩
    · rw [hbin, haccess, State.foundDamaged_bin, htwo]
      rfl
    · refine (hreport.counters .recordDamage (by decide)).trans ((hgrows.counters .recordDamage (by decide)).trans ?_)
      exact (State.raise_counter (s.count .recordDamage 1) _ _).trans ((State.count_counter _ _ _ _).trans (if_pos rfl))
    · refine (hreport.counters .recordCorrection (by decide)).trans
        ((hgrows.counters .recordCorrection (by decide)).trans ?_)
      exact (State.raise_counter (s.count .recordDamage 1) _ _).trans
        ((State.count_counter _ _ _ _).trans (if_neg (by decide)))
    · rw [Reporting.raise_conditions, ConditionUnit.raise_raised]
      rfl
    · exact (hreport.counters .notice (by decide)).trans (s.foundDamaged_notice requester test n wear hactive hzone)
    · subst hc
      obtain ⟨hgrant, rfl⟩ : s.portGrant = some .readingUnit ∧ reading.reading.bin = n := by
        unfold State.recordRead at hread
        split at hread <;> simp_all
      have hfound := (s.finding_damaged (kind := .read) (by decide) reading.reading.bin wear).2 (Nat.le_of_eq htwo.symm)
      have hdrops := execRecordFetch_of_grant wear hreader hgrant
      rw [if_pos hfound, s.access_damaged .readingUnit (by decide) _ _ hfound] at hdrops
      obtain rfl : t = _ := Host.Outcome.next.inj (hexec.symm.trans hdrops)
      refine ⟨rfl, ?_, State.keepsAllBut_of_leavesBut (State.leavesBut_step (State.leavesBut_mono
        (s.foundDamaged_leaves .readingUnit _ _ wear) ?_) (State.dropReading_leaves _ _) ?_)⟩
      · refine (State.count_counter _ .faultDrop .faultDrop 1).trans ((if_pos rfl).trans (congrArg (Counter.rise 1) ?_))
        refine ((s.foundDamaged_grows .readingUnit _ _ wear).counters .faultDrop (by decide)).trans ?_
        exact (State.raise_counter (s.count .recordDamage 1) _ _).trans
          ((State.count_counter _ _ _ _).trans (if_neg (by decide)))
      · decide
      · decide

end Sys2Proof.Machine

/-! BIN LOAD and BIN READ: the layout of the record, the checks, the converted read and the load grant (sections 1.6, 1.8
and 12.3). -/

namespace Sys2Proof.Machine

/-! ## Layouts that read back -/

/-- A field of a layout is the number laid out there. -/
theorem fieldAt_of_layout {octets : List Octet} {offset width value : Nat}
    (hlayout : (octets.drop offset).take width = beOctets width value) (hvalue : value < 256 ^ width) :
    fieldAt offset width octets = value := by
  rw [fieldAt, hlayout, beValue_beOctets, Nat.mod_eq_of_lt hvalue]

/-- The ranges of a record in range, field by field (R19). -/
theorem BinRecord.inRange_iff (r : BinRecord) :
    r.inRange = true ↔
      r.zone ≤ 63 ∧ r.curve ≤ 31 ∧ 200 ≤ r.emptyDepth ∧ r.emptyDepth ≤ 3000 ∧ 10 ≤ r.capacity ∧ r.capacity ≤ 5000
        ∧ 1 ≤ r.warn ∧ r.warn ≤ 999 ∧ r.warn + 1 ≤ r.collect ∧ r.collect ≤ 1000 ∧ r.hysteresis ≤ 200
        ∧ r.hysteresis ≤ r.warn - 1 ∧ 1 ≤ r.weight ∧ r.weight ≤ 16
        ∧ ∀ limit, r.silenceLimit = some limit → 600 ≤ limit ∧ limit ≤ 604800 := by
  have hsilence : (match r.silenceLimit with
      | none => true
      | some limit => decide (600 ≤ limit) && decide (limit ≤ 604800)) = true ↔
        ∀ limit, r.silenceLimit = some limit → 600 ≤ limit ∧ limit ≤ 604800 := by
    cases r.silenceLimit <;> simp
  unfold BinRecord.inRange
  refine (Iff.of_eq (Bool.and_eq_true _ _)).trans ((and_congr Iff.rfl hsilence).trans ?_)
  simp only [Bool.and_eq_true, decide_eq_true_eq, and_assoc]
  constructor
  · rintro ⟨h1, h2, h3, h4, h5, h6, h7, h8, h9, h10, h11, h12, h13, h14, h15⟩
    exact ⟨h1, h2, h3, h4, h5, h6, h7, h8, h9, h10, h11, Nat.le_sub_one_of_lt h12, h13, h14, h15⟩
  · rintro ⟨h1, h2, h3, h4, h5, h6, h7, h8, h9, h10, h11, h12, h13, h14, h15⟩
    exact ⟨h1, h2, h3, h4, h5, h6, h7, h8, h9, h10, h11, by omega, h13, h14, h15⟩

theorem beOctets_one (n : Nat) : beOctets 1 n = [BitVec.ofNat 8 n] := rfl

theorem beOctets_two (n : Nat) : beOctets 2 n = [BitVec.ofNat 8 (n / 256), BitVec.ofNat 8 n] := rfl

theorem beOctets_four (n : Nat) :
    beOctets 4 n =
      [BitVec.ofNat 8 (n / 256 / 256 / 256), BitVec.ofNat 8 (n / 256 / 256), BitVec.ofNat 8 (n / 256), BitVec.ofNat 8 n] := rfl

/-- The flag octet of a record's layout. -/
def recordFlagOctet (record : BinRecord) : Octet :=
  BitVec.ofNat 8 (record.inService.toNat + 2 * record.testBin.toNat + 8 * (if record.kind = .glass then 1 else 0))

/-- The four bits of a record's flag octet, the poison bit clear. -/
theorem recordFlagOctet_bits (record : BinRecord) :
    (recordFlagOctet record).getLsbD 0 = record.inService ∧ (recordFlagOctet record).getLsbD 1 = record.testBin
      ∧ (recordFlagOctet record).getLsbD 2 = false
      ∧ (if (recordFlagOctet record).getLsbD 3 then BinKind.glass else .litter) = record.kind := by
  unfold recordFlagOctet
  cases record.inService <;> cases record.testBin <;> cases record.kind <;> decide

/-- The 22 octets of a record's layout, one by one (section 12.3). -/
theorem recordOctets_eq (n : Nat) (record : BinRecord) :
    recordOctets n record =
      [BitVec.ofNat 8 (n / 256), BitVec.ofNat 8 n, recordFlagOctet record, BitVec.ofNat 8 (record.tag / 256),
        BitVec.ofNat 8 record.tag, BitVec.ofNat 8 record.zone, BitVec.ofNat 8 record.curve,
        BitVec.ofNat 8 (record.emptyDepth / 256), BitVec.ofNat 8 record.emptyDepth, BitVec.ofNat 8 (record.capacity / 256),
        BitVec.ofNat 8 record.capacity, BitVec.ofNat 8 (record.warn / 256), BitVec.ofNat 8 record.warn,
        BitVec.ofNat 8 (record.collect / 256), BitVec.ofNat 8 record.collect, BitVec.ofNat 8 record.hysteresis,
        BitVec.ofNat 8 record.weight, BitVec.ofNat 8 (record.silenceLimit.getD 0 / 256 / 256 / 256),
        BitVec.ofNat 8 (record.silenceLimit.getD 0 / 256 / 256), BitVec.ofNat 8 (record.silenceLimit.getD 0 / 256),
        BitVec.ofNat 8 (record.silenceLimit.getD 0), record.selection.setWidth 8] := by
  simp only [recordOctets, recordFlagOctet, beOctets_one, beOctets_two, beOctets_four, List.cons_append, List.nil_append]

/-- A record read back from its octets. -/
theorem argRecord_recordOctets {record : BinRecord} (hrange : record.inRange = true) (htag : record.tag ≤ 65535) (n : Nat) :
    argRecord (recordOctets n record) = record ∧ argPoison (recordOctets n record) = false := by
  obtain ⟨hzone, hcurve, -, hdepth, -, hcapacity, -, hwarn, -, hcollect, hhysteresis, -, -, hweight, hlimit⟩ :=
    (BinRecord.inRange_iff record).1 hrange
  have hsilence : record.silenceLimit.getD 0 < 256 ^ 4 := by
    cases h : record.silenceLimit with
    | none => decide
    | some limit => exact Nat.lt_of_le_of_lt (hlimit limit h).2 (by decide)
  have hlimited : (if record.silenceLimit.getD 0 = 0 then none else some (record.silenceLimit.getD 0)) =
      record.silenceLimit := by
    cases h : record.silenceLimit with
    | none => rfl
    | some limit => exact if_neg (Nat.ne_of_gt (Nat.lt_of_lt_of_le (by decide) (hlimit limit h).1))
  have hselection : (record.selection.setWidth 8).setWidth 6 = record.selection := by simp
  obtain ⟨hservice, htest, hpoison, hkind⟩ := recordFlagOctet_bits record
  have hfield (offset width value : Nat) (hvalue : value < 256 ^ width)
      (hlayout : ((recordOctets n record).drop offset).take width = beOctets width value := by
        rw [recordOctets_eq]; rfl) := fieldAt_of_layout hlayout hvalue
  have hflags {i : Nat} : flagAt 2 i (recordOctets n record) = (recordFlagOctet record).getLsbD i := by
    rw [recordOctets_eq]
    rfl
  refine ⟨?_, hflags.trans hpoison⟩
  unfold argRecord
  rw [hfield 3 2 record.tag (by omega), hfield 5 1 record.zone (by omega), hfield 6 1 record.curve (by omega),
    hfield 7 2 record.emptyDepth (by omega), hfield 9 2 record.capacity (by omega), hfield 11 2 record.warn (by omega),
    hfield 13 2 record.collect (by omega), hfield 15 1 record.hysteresis (by omega), hfield 16 1 record.weight (by omega),
    hfield 17 4 (record.silenceLimit.getD 0) hsilence, hlimited]
  have hlast : (octetAt 21 (recordOctets n record)).setWidth 6 = record.selection := by
    rw [recordOctets_eq]
    exact hselection
  rw [hflags, hservice, hflags, hkind, hflags, htest, hlast]

theorem argPoints_pointOctets {points : List Point} (h : ∀ p ∈ points, p.height ≤ 3000 ∧ p.fill ≤ 1000) :
    argPoints (pointOctets points) = points ∧ (pointOctets points).length = 4 * points.length := by
  induction points with
  | nil => exact ⟨rfl, rfl⟩
  | cons p points ih =>
    obtain ⟨⟨hheight, hfill⟩, hrest⟩ := List.forall_mem_cons.1 h
    obtain ⟨hpoints, hlength⟩ := ih hrest
    have hread {value : Nat} (hvalue : value ≤ 3000) : beValue (beOctets 2 value) = value := by
      rw [beValue_beOctets]
      omega
    have hfirst : argPoints (pointOctets (p :: points)) =
        ⟨beValue (beOctets 2 p.height), beValue (beOctets 2 p.fill)⟩ :: argPoints (pointOctets points) := rfl
    constructor
    · rw [hfirst, hread hheight, hread (Nat.le_trans hfill (by decide)), hpoints]
    · rw [pointOctets, List.flatMap_cons, ← pointOctets, List.length_append, hlength, List.length_append, length_beOctets,
        length_beOctets, List.length_cons]
      omega

/-- Settles O38: field by field, and point by point. -/
theorem recordAndPointsReadBack : Obligations.RecordAndPointsReadBack := by
  refine ⟨fun n record hn hrange htag => ?_, fun points h => argPoints_pointOctets h⟩
  obtain ⟨hrecord, hpoison⟩ := argRecord_recordOctets hrange htag n
  exact ⟨fieldAt_of_layout (offset := 0) (width := 2) (value := n) (by rw [recordOctets_eq]; rfl) (by omega), hrecord,
    hpoison, by rw [recordOctets_eq]; rfl⟩

/-! ## BIN LOAD -/

/-- A reply after work that left the Management Unit alone answers the request at the head of its queue. -/
theorem State.reply_of_mgmt {s t : State} {k : RequestKind} {r : Request} (hmgmt : t.mgmt = s.mgmt)
    (hhead : s.mgmt.queue.head? = some r) (hkind : r.kind = k.code) (result : ResultCode) (content : List Octet) :
    t.reply result content = t.answered k r result content :=
  State.reply_eq_answered (by rw [hmgmt]; exact hhead) hkind result content

theorem State.reply_answers {s : State} {k : RequestKind} {r : Request} (h : s.offers k r) (result : ResultCode)
    (content : List Octet) : s.reply result content = s.answered k r result content := by
  obtain ⟨-, -, hhead, hkind, -⟩ := h
  exact State.reply_eq_answered hhead hkind result content

theorem State.unlessLocked_of_unlocked {s : State} (h : s.mgmt.lock = none) (rule : State → State) :
    s.unlessLocked rule = rule s := by
  simp [State.unlessLocked, h]

theorem Slot.present_eq_false {v : Slot} : v.present = false ↔ v.points = [] := by
  simp [Slot.present]

theorem State.readThrough_mgmt (s : State) (r : Requester) (n : Nat) (wear : Wear) : (s.readThrough r n wear).mgmt = s.mgmt :=
  s.readThrough_leaves r n wear .mgmt (by decide)

theorem State.foundDamaged_mgmt (s : State) (r : Requester) (test : Bool) (n : Nat) (wear : Wear) :
    (s.foundDamaged r test n wear).mgmt = s.mgmt :=
  s.foundDamaged_leaves r test n wear .mgmt (by decide)

theorem execBinLoad_of_offers {s : State} {r : Request} (h : s.offers .binLoad r) (hlock : s.mgmt.lock = none) :
    exec .binLoad s = .next (s.serveBinLoad r.args) :=
  congrArg Host.Outcome.next ((State.serve_of_offers h _ _).trans (State.unlessLocked_of_unlocked hlock _))

/-- The converted read over a readable record and over a damaged one (R18). -/
theorem exec_convertedRead_of_grant {s : State} {n : Nat} {r : Request} (wear : Wear) (hstage : s.mgmt.stage = .converted n)
    (hhead : s.mgmt.queue.head? = some r) (hkind : r.kind = RequestKind.binLoad.code)
    (hgrant : s.portGrant = some .managementUnit) :
    (worn wear (s.bin n).badBits ≤ 1 →
        exec (.convertedRead wear) s = .next
          ((s.readThrough .managementUnit n wear).answered .binLoad r .doneProtected
            (recordOctets n (s.bin n).record ++ beOctets 1 (s.bin n).generation)))
      ∧ (2 ≤ worn wear (s.bin n).badBits →
        exec (.convertedRead wear) s = .next
          ((s.foundDamaged .managementUnit false n wear).answered .binLoad r .damaged
            (beOctets 1 (s.bin n).generation))) := by
  constructor
  · intro hreadable
    have hfound : s.finding .read n wear ≠ .damaged := fun h =>
      absurd ((s.finding_damaged (by decide) n wear).1 h) (Nat.not_le_of_lt (Nat.lt_succ_of_le hreadable))
    show execConvertedRead wear s = _
    unfold execConvertedRead
    rw [hstage]
    dsimp only
    rw [if_pos hgrant, if_neg hfound, s.access_readable .managementUnit (by decide) false n hreadable,
      State.reply_of_mgmt (s.readThrough_mgmt _ _ _) hhead hkind, State.readThrough_record, State.readThrough_generation]
  · intro hdamaged
    have hfound := (s.finding_damaged (kind := .read) (by decide) n wear).2 hdamaged
    have hgeneration : ((s.foundDamaged .managementUnit false n wear).bin n).generation = (s.bin n).generation := by
      rw [State.foundDamaged_bin]
    show execConvertedRead wear s = _
    unfold execConvertedRead
    rw [hstage]
    dsimp only
    rw [if_pos hgrant, if_pos hfound, s.access_damaged .managementUnit (by decide) false n hfound,
      State.reply_of_mgmt (s.foundDamaged_mgmt _ _ _ _) hhead hkind, hgeneration]

/-- Settles O34: the checks in the order of R17, and the converted read. -/
theorem binLoadIsCheckedInOrder : Obligations.BinLoadIsCheckedInOrder := by
  constructor
  · intro r s h hlock n record inRange
    have hrange : record.inRange = true ↔ inRange := BinRecord.inRange_iff record
    have hpresent : (s.curves.slot s.curves.active record.curve).present = false ↔
        (s.curves.slot s.curves.active record.curve).points = [] := Slot.present_eq_false
    rw [execBinLoad_of_offers h hlock]
    unfold State.serveBinLoad
    dsimp only
    have hlow (hbin : n ≤ 4095) : ¬ Config.lastBin < argBin r.args := Nat.not_lt_of_le hbin
    have hopen (hfree : Bits.has (n / 128) s.table.protectedSegments = false) : ¬ s.isProtected (argBin r.args) = true :=
      ne_true_of_eq_false hfree
    have hjudged (hin : inRange) : ¬ (!(argRecord r.args).inRange) = true := by
      rw [show (argRecord r.args).inRange = true from hrange.2 hin]
      decide
    refine ⟨fun hbin => ?_, fun hbin hprotected => ?_, fun hbin hfree hbad => ?_, fun hbin hfree hin hcurve => ?_⟩
    · rw [if_pos (show Config.lastBin < argBin r.args from hbin), State.reply_answers h]
    · rw [if_neg (hlow hbin), if_pos (show s.isProtected (argBin r.args) = true from hprotected)]
      rfl
    · rw [if_neg (hlow hbin), if_neg (hopen hfree), ← State.reply_answers h]
      by_cases hin : inRange
      · obtain ⟨hservice, hpoints⟩ := hbad.resolve_left fun hno => hno hin
        rw [if_neg (hjudged hin), if_pos]
        rw [Bool.and_eq_true, Bool.not_eq_true']
        exact ⟨hservice, hpresent.2 hpoints⟩
      · rw [if_pos]
        rw [Bool.not_eq_true']
        exact eq_false_of_ne_true fun hr => hin (hrange.1 hr)
    · have hfound : ¬ ((argRecord r.args).inService
          && !(s.curves.slot s.curves.active (argRecord r.args).curve).present) = true := by
        intro hmissing
        rw [Bool.and_eq_true, Bool.not_eq_true'] at hmissing
        exact hcurve hmissing.1 (hpresent.1 hmissing.2)
      rw [if_neg (hlow hbin), if_neg (hopen hfree), if_neg (hjudged hin), if_neg hfound]
      rfl
  · exact fun n wear r s _ hstage hhead hkind hgrant => exec_convertedRead_of_grant wear hstage hhead hkind hgrant

/-! ## BIN READ -/

/-- The content of a BIN READ reply after its access, which leaves the segments and the free values alone. -/
theorem State.binContent_of_leavesBut {s t : State} {L : List Part} (h : s.leavesBut L t) (hsegments : .segments ∉ L)
    (hfree : .freeCount ∉ L) (n : Nat) :
    t.binContent n =
      beOctets 1 (t.bin n).generation ++ fillOctets s.freeCount (t.bin n).fill
        ++ segmentOctets (s.isProtected n) (s.table.timer (segmentOf n)) := by
  obtain ⟨hprotected, hheld⟩ := h .segments hsegments
  have hcount : t.freeCount = s.freeCount := h .freeCount hfree
  unfold State.binContent State.isProtected BinTable.timer
  rw [hprotected, hheld, hcount]

/-- The reply of a BIN READ whose reception is absent uses three free values (log entry 5). -/
theorem State.useFree_answered (t : State) (n : Nat) (k : RequestKind) (r : Request) (result : ResultCode)
    (content : List Octet) :
    (t.answered k r result content).useFree n =
      ({ t with freeCount := if (t.bin n).fill.reception = none then t.freeCount + 3 else t.freeCount } : State).answered k r
        result content := by
  have hbin : (t.answered k r result content).bin n = t.bin n := rfl
  unfold State.useFree
  rw [hbin]
  split <;> rfl

/-- Settles O36: the request, and its record read over a readable record and over a damaged one. -/
theorem binReadAnswersWithTheBin : Obligations.BinReadAnswersWithTheBin := by
  constructor
  · intro r s h
    have hserved : exec .binRead s = .next (s.serveBinRead r.args) := congrArg Host.Outcome.next (State.serve_of_offers h _ _)
    rw [hserved, State.serveBinRead]
    refine ⟨fun hbin => ?_, fun hbin => ?_⟩
    · rw [if_pos (show Config.lastBin < argBin r.args from hbin), State.reply_answers h]
    · rw [if_neg (show ¬ Config.lastBin < argBin r.args from Nat.not_lt_of_le hbin)]
      rfl
  · intro n wear r s _ hstage hhead hkind hgrant segment used
    have haccess : execBinReadAccess wear s =
        let t := (s.granted .managementUnit).access .read false n wear
        if s.finding .read n wear = .damaged then .next ((t.reply .damaged (t.binContent n)).useFree n)
        else .next ((t.reply .done (recordOctets n (t.bin n).record ++ t.binContent n)).useFree n) := by
      unfold execBinReadAccess
      rw [hstage]
      dsimp only
      rw [if_pos hgrant]
    constructor
    · intro hreadable
      have hfound : s.finding .read n wear ≠ .damaged := fun h =>
        absurd ((s.finding_damaged (by decide) n wear).1 h) (Nat.not_le_of_lt (Nat.lt_succ_of_le hreadable))
      have hleaves := s.readThrough_leaves .managementUnit n wear
      have hcount : (s.readThrough .managementUnit n wear).freeCount = s.freeCount := hleaves .freeCount (by decide)
      show execBinReadAccess wear s = _
      rw [haccess, s.access_readable .managementUnit (by decide) false n hreadable]
      dsimp only
      rw [if_neg hfound, State.reply_of_mgmt (s.readThrough_mgmt _ _ _) hhead hkind, State.useFree_answered,
        State.binContent_of_leavesBut hleaves (by decide) (by decide), State.readThrough_record, State.readThrough_generation,
        State.readThrough_fill, hcount, ← List.append_assoc, ← List.append_assoc]
      rfl
    · intro hdamaged found
      have hfound := (s.finding_damaged (kind := .read) (by decide) n wear).2 hdamaged
      have hleaves := s.foundDamaged_leaves .managementUnit false n wear
      have hcount : found.freeCount = s.freeCount := hleaves .freeCount (by decide)
      have hgeneration : (found.bin n).generation = (s.bin n).generation := by rw [State.foundDamaged_bin]
      have hreception : (found.bin n).fill.reception = (s.bin n).fill.reception := by
        rw [State.foundDamaged_bin]
        dsimp only
        split <;> rfl
      show execBinReadAccess wear s = _
      rw [haccess, s.access_damaged .managementUnit (by decide) false n hfound]
      dsimp only
      rw [if_pos hfound, State.reply_of_mgmt (s.foundDamaged_mgmt _ _ _ _) hhead hkind, State.useFree_answered,
        State.binContent_of_leavesBut hleaves (by decide) (by decide), hgeneration, hreception, hcount]
      rfl

/-! ## The load grant -/

theorem keepsFill_iff (record : BinRecord) (finding : Finding) (old : Bin) :
    keepsFill record finding old = true ↔
      record.inService = true ∧ finding ≠ .damaged ∧ old.fill.service = .active ∧ record.tag = old.record.tag := by
  simp only [keepsFill, Bool.and_eq_true, beq_iff_eq, bne_iff_ne]
  constructor
  · rintro ⟨⟨⟨hservice, hactive⟩, hfound⟩, htag⟩
    exact ⟨hservice, hfound, hactive, htag⟩
  · rintro ⟨hservice, hfound, hactive, htag⟩
    exact ⟨⟨⟨hservice, hactive⟩, hfound⟩, htag⟩

/-- The bin that a load with a given Fill State leaves (R20). -/
def Bin.loaded (record : BinRecord) (poison : Bool) (old : Bin) (fill : FillState) : Bin where
  record := record
  generation := (old.generation + 1) % 256
  repair := false
  badBits := if poison = true then 2 else 0
  fill := fill

/-- The load over an old record, good or corrected, in the words of R20 to R23. -/
theorem State.load_eq {u : State} {n : Nat} {old : Bin} (hrecord : (u.bin n).record = old.record)
    (hgeneration : (u.bin n).generation = old.generation) (hfill : (u.bin n).fill = old.fill) (record : BinRecord)
    (poison : Bool) (finding : Finding) :
    u.load n record poison finding =
      let fill := loadedFill record finding u.now old
      let t := (u.setBin n (Bin.loaded record poison old fill)).postChange old.fill fill
      (if keepsFill record finding old = true ∧ fill.level = .full ∧ old.fill.level ≠ .full then
          t.notify record.selection n (some record.kind) false fill .full
        else t).reply .done (recordOctets n record ++ beOctets 1 ((old.generation + 1) % 256)) := by
  have hkeeps : keepsFill record finding (u.bin n) = keepsFill record finding old := by
    unfold keepsFill
    rw [hrecord, hfill]
  have hloaded : loadedFill record finding u.now (u.bin n) = loadedFill record finding u.now old := by
    unfold loadedFill
    rw [hkeeps, hfill]
  have hbin : loadedBin record poison finding u.now (u.bin n) =
      Bin.loaded record poison old (loadedFill record finding u.now old) := by
    unfold loadedBin Bin.loaded
    rw [hloaded, hgeneration]
  unfold State.load loadNotices
  dsimp only
  rw [hbin, hkeeps, hfill]
  by_cases hfull : keepsFill record finding old = true ∧ (loadedFill record finding u.now old).level = .full
      ∧ old.fill.level ≠ .full
  · have hnotice : (keepsFill record finding old && (Bin.loaded record poison old
        (loadedFill record finding u.now old)).fill.level == .full && old.fill.level != .full) = true := by
      obtain ⟨hkept, hentered, hbefore⟩ := hfull
      simp [Bin.loaded, hkept, hentered, hbefore]
    rw [if_pos hfull, if_pos hnotice]
    rfl
  · have hnotice : ¬ (keepsFill record finding old && (Bin.loaded record poison old
        (loadedFill record finding u.now old)).fill.level == .full && old.fill.level != .full) = true := by
      simpa [Bin.loaded, and_assoc] using hfull
    rw [if_neg hfull, if_neg hnotice]
    rfl

theorem execLoadGrant_of_grant {s : State} {n : Nat} {record : BinRecord} {poison : Bool} (wear : Wear)
    (hstage : s.mgmt.stage = .load n record poison) (hgrant : s.portGrant = some .managementUnit) :
    exec (.loadGrant wear) s = .next
      (((s.granted .managementUnit).access .load false n wear).load n record poison (s.finding .load n wear)) := by
  show execLoadGrant wear s = _
  unfold execLoadGrant
  rw [hstage]
  exact if_pos hgrant

/-- The load over a readable old record: its Fill State is judged on the old bin (R21 to R23). -/
theorem exec_loadGrant_readable {s : State} {n : Nat} {record : BinRecord} {poison : Bool} {r : Request} {wear : Wear}
    (hstage : s.mgmt.stage = .load n record poison) (hgrant : s.portGrant = some .managementUnit)
    (hhead : s.mgmt.queue.head? = some r) (hkind : r.kind = RequestKind.binLoad.code)
    (hreadable : worn wear (s.bin n).badBits ≤ 1) {fill : FillState} {kept : Bool}
    (hfill : loadedFill record (s.finding .load n wear) s.now (s.bin n) = fill)
    (hkept : keepsFill record (s.finding .load n wear) (s.bin n) = kept) :
    let t := ((s.readThrough .managementUnit n wear).setBin n (Bin.loaded record poison (s.bin n) fill)).postChange
      (s.bin n).fill fill
    exec (.loadGrant wear) s = .next
      ((if kept = true ∧ fill.level = .full ∧ (s.bin n).fill.level ≠ .full then
          t.notify record.selection n (some record.kind) false fill .full
        else t).answered .binLoad r .done (recordOctets n record ++ beOctets 1 (((s.bin n).generation + 1) % 256))) := by
  have hnow : (s.readThrough .managementUnit n wear).now = s.now :=
    congrArg ManagementUnit.partTime (s.readThrough_mgmt .managementUnit n wear)
  rw [execLoadGrant_of_grant wear hstage hgrant, s.access_readable .managementUnit (by decide) false n hreadable,
    State.load_eq (s.readThrough_record ..) (s.readThrough_generation ..) (s.readThrough_fill ..), hnow, hfill, hkept]
  refine congrArg Host.Outcome.next (State.reply_of_mgmt (s := s) ?_ hhead hkind _ _)
  split
  · rw [State.notify_mgmt]
    exact s.readThrough_mgmt _ _ _
  · exact s.readThrough_mgmt _ _ _

/-- A load grant over a damaged old record counts the damage and leaves FAULT out (R20). -/
theorem State.access_load_damaged {s : State} {n : Nat} {wear : Wear} (h : s.finding .load n wear = .damaged) (test : Bool) :
    s.access .load test n wear =
      ((s.setBin n ((s.wornBin n wear).tested .load)).count .recordDamage 1).raise .eccDamage := by
  unfold State.access
  rw [h]
  exact if_pos rfl

/-- Settles O35: the three Fill States that a load leaves, and the load over a damaged record. -/
theorem loadGrantWritesTheRecord : Obligations.LoadGrantWritesTheRecord := by
  intro n record poison wear r s _ hstage hhead hkind hgrant old out fresh keeps kept loaded written answer
  constructor
  · intro hreadable
    have hfound : s.finding .load n wear ≠ .damaged := fun h =>
      absurd ((s.finding_damaged (by decide) n wear).1 h) (Nat.not_le_of_lt (Nat.lt_succ_of_le hreadable))
    refine ⟨fun hservice => ?_, fun hservice hnot => ?_, fun hservice hkeeps => ?_⟩
    · have hdrops : keepsFill record (s.finding .load n wear) old = false := by simp [keepsFill, hservice]
      have hfill : loadedFill record (s.finding .load n wear) s.now old = out := by
        unfold loadedFill
        rw [hservice]
        rfl
      exact exec_loadGrant_readable hstage hgrant hhead hkind hreadable hfill hdrops
    · have hdrops : keepsFill record (s.finding .load n wear) old = false :=
        eq_false_of_ne_true fun hk => by
          obtain ⟨-, -, hactive, htag⟩ := (keepsFill_iff _ _ _).1 hk
          exact hnot ⟨hactive, htag⟩
      have hfill : loadedFill record (s.finding .load n wear) s.now old = fresh := by
        unfold loadedFill
        rw [hservice, hdrops]
        rfl
      exact exec_loadGrant_readable hstage hgrant hhead hkind hreadable hfill hdrops
    · have hkept : keepsFill record (s.finding .load n wear) old = true :=
        (keepsFill_iff _ _ _).2 ⟨hservice, hfound, hkeeps.1, hkeeps.2⟩
      have hfill : loadedFill record (s.finding .load n wear) s.now old = kept := by
        unfold loadedFill
        rw [hservice, hkept]
        rfl
      have hexec := exec_loadGrant_readable (r := r) (poison := poison) hstage hgrant hhead hkind hreadable hfill hkept
      by_cases hfull : kept.level = .full ∧ old.fill.level ≠ .full
      · rw [if_pos hfull]
        exact hexec.trans (congrArg (fun t => Host.Outcome.next (answer t)) (if_pos ⟨rfl, hfull⟩))
      · rw [if_neg hfull]
        exact hexec.trans (congrArg (fun t => Host.Outcome.next (answer t)) (if_neg fun h => hfull h.2))
  · intro hdamaged
    have hfound := (s.finding_damaged (kind := .load) (by decide) n wear).2 (Nat.le_of_eq hdamaged.symm)
    obtain ⟨hrecord, hgeneration, hfillSame⟩ := (s.wornBin n wear).tested_frame .load
    have hdrops : keepsFill record .damaged old = false := by simp [keepsFill]
    have hfill : loadedFill record .damaged s.now old = if record.inService = true then fresh else out := by
      unfold loadedFill
      rw [hdrops]
      cases record.inService <;> rfl
    have hexec := execLoadGrant_of_grant wear hstage hgrant
    rw [State.access_load_damaged (s := s.granted .managementUnit) hfound, hfound] at hexec
    let u := ((((s.granted .managementUnit).setBin n ((s.wornBin n wear).tested .load)).count .recordDamage 1).raise .eccDamage)
    have hbin : u.bin n = (s.wornBin n wear).tested .load := State.setBin_bin_self _ _ _
    have hload := State.load_eq (u := u) (old := old) (by rw [hbin]; exact hrecord) (by rw [hbin]; exact hgeneration)
      (by rw [hbin]; exact hfillSame) record poison .damaged
    dsimp only at hload
    rw [if_neg fun h => absurd (hdrops.symm.trans h.1) (by decide), show u.now = s.now from rfl, hfill] at hload
    have hanswered := hload.trans (State.reply_of_mgmt (s := s) (by exact rfl) hhead hkind _ _)
    have hchange := Reporting.grows_applyChange u.report u.now u.mgmt.params.summaryStep old.fill.contribution
      (if record.inService = true then fresh else out).contribution
    refine ⟨_, hexec.trans (congrArg Host.Outcome.next hanswered), ?_, ?_, ?_, ?_⟩
    · exact State.setBin_bin_self u n _
    · exact (hchange.counters .recordDamage (by decide)).trans
        ((State.raise_counter _ _ _).trans ((State.count_counter _ _ _ _).trans (if_pos rfl)))
    · exact (hchange.counters .notice (by decide)).trans
        ((State.raise_counter _ _ _).trans ((State.count_counter _ _ _ _).trans (if_neg (by decide))))
    · rfl

end Sys2Proof.Machine

/-! The curves: slot accesses, CURVE LOAD and CURVE READ, and CURVE SWAP with its slot test, its bin scan and its exchange
(chapter 2). -/

namespace Sys2Proof.Machine

/-! ## Slot accesses (R29) -/

theorem Slot.present_eq_true {v : Slot} : v.present = true ↔ v.points ≠ [] := by simp [Slot.present]

/-- A slot access finds damage in a present slot that is marked, or has two bits in error. -/
theorem Slot.finding_damaged (w : Wear) (v : Slot) :
    v.finding w = .damaged ↔ v.points ≠ [] ∧ (v.damaged = true ∨ 2 ≤ worn w v.badBits) := by
  unfold Slot.finding
  by_cases hpresent : v.present = true
  · have hpoints := Slot.present_eq_true.1 hpresent
    cases hmark : v.damaged with
    | true => simp [hpresent, hpoints]
    | false =>
      by_cases hzero : worn w v.badBits = 0
      · simp [hpresent, hzero]
      · by_cases hone : worn w v.badBits = 1
        · simp [hpresent, hone]
        · simp only [hpresent, hzero, hone, hpoints, Bool.not_true, if_false, Bool.false_eq_true, false_or, true_iff, ne_eq,
            not_false_eq_true, true_and]
          omega
  · have habsent := Slot.present_eq_false.1 (eq_false_of_ne_true hpresent)
    simp [hpresent, habsent]

section SlotAccess

variable (s : State) (bank : Bank) (n : Nat) {w : Wear}

/-- The slot after an access. -/
theorem State.slotAccess_slot_self (w : Wear) :
    (s.slotAccess bank n w).curves.slot bank n = (s.curves.slot bank n).tested w := by
  rw [State.slotAccess_curves, CurveStore.setSlot_slot, if_pos ⟨rfl, rfl⟩]

theorem State.slotAccess_slot_other (w : Wear) {other : Bank} {m : Nat} (h : ¬ (other = bank ∧ m = n)) :
    (s.slotAccess bank n w).curves.slot other m = s.curves.slot other m := by
  rw [State.slotAccess_curves, CurveStore.setSlot_slot, if_neg h]

theorem State.slotAccess_same (w : Wear) : s.curves.Same (s.slotAccess bank n w).curves := by
  rw [State.slotAccess_curves]
  exact (CurveStore.Same.refl s.curves).access bank n w

/-- An access that finds nothing, or damage that the mark already says, counts nothing. -/
theorem State.slotAccess_quiet
    (h : (s.curves.slot bank n).finding w = .good ∨ (s.curves.slot bank n).damaged = true) :
    s.slotAccess bank n w = { s with curves := s.curves.setSlot bank n ((s.curves.slot bank n).tested w) } := by
  have hmarked : (s.curves.slot bank n).damaged = true → (s.curves.slot bank n).finding w ≠ .corrected := fun hmark => by
    unfold Slot.finding
    rw [hmark]
    split <;> simp
  unfold State.slotAccess
  dsimp only
  split
  · rfl
  · next hcorrected =>
    rcases h with hgood | hmark
    · exact absurd (hgood.symm.trans hcorrected) (by decide)
    · exact absurd hcorrected (hmarked hmark)
  · next hdamaged =>
    rcases h with hgood | hmark
    · exact absurd (hgood.symm.trans hdamaged) (by decide)
    · rw [if_pos hmark]

theorem State.slotAccess_corrected (h : (s.curves.slot bank n).finding w = .corrected) :
    s.slotAccess bank n w =
      (({ s with curves := s.curves.setSlot bank n ((s.curves.slot bank n).tested w) } : State).count .curveCorrection 1).raise
        .eccFix := by
  unfold State.slotAccess
  dsimp only
  rw [h]

theorem State.slotAccess_damaged (h : (s.curves.slot bank n).finding w = .damaged)
    (hmark : (s.curves.slot bank n).damaged = false) :
    s.slotAccess bank n w =
      (({ s with curves := s.curves.setSlot bank n ((s.curves.slot bank n).tested w) } : State).count .curveDamage 1).raise
        .eccDamage := by
  unfold State.slotAccess
  dsimp only
  rw [h]
  exact if_neg (ne_true_of_eq_false hmark)

end SlotAccess

/-- A present slot without a mark is judged by its bits in error. -/
theorem Slot.unmarked {v : Slot} (hpoints : v.points ≠ []) (hmark : v.damaged = false) (w : Wear) :
    v.finding w = (if worn w v.badBits = 0 then .good else if worn w v.badBits = 1 then .corrected else .damaged)
      ∧ v.tested w = (if worn w v.badBits ≤ 1 then { v with badBits := 0 } else { v with badBits := 2, damaged := true }) := by
  have hpresent := Slot.present_eq_true.2 hpoints
  constructor
  · simp [Slot.finding, hpresent, hmark]
  · simp [Slot.tested, hpresent, hmark]

theorem Slot.settled {v : Slot} (h : v.points = [] ∨ v.damaged = true) (w : Wear) :
    v.tested w = v ∧ (v.finding w = .good ∨ v.damaged = true) := by
  unfold Slot.tested Slot.finding
  rcases h with hpoints | hmark
  · rw [Slot.present_eq_false.2 hpoints]
    exact ⟨rfl, .inl rfl⟩
  · refine ⟨?_, .inr hmark⟩
    rw [hmark, Bool.or_true]
    rfl

/-- The rules of R29, by what the access finds. -/
theorem slotAccess_rules (bank : Bank) (n : Nat) (wear : Wear) (s : State) :
    let v := s.curves.slot bank n
    let t := s.slotAccess bank n wear
    let w := t.curves.slot bank n
    w.points = v.points
      ∧ (v.points = [] ∨ v.damaged = true → w = v ∧ ∀ c, t.counter c = s.counter c)
      ∧ (v.points ≠ [] → v.damaged = false → worn wear v.badBits = 0 →
          w = { v with badBits := 0 } ∧ ∀ c, t.counter c = s.counter c)
      ∧ (v.points ≠ [] → v.damaged = false → worn wear v.badBits = 1 →
          w = { v with badBits := 0 } ∧ Bits.has Flag.eccFix.index t.report.conditions.raised = true
            ∧ t.counter .curveCorrection = (s.counter .curveCorrection).rise 1
            ∧ t.counter .curveDamage = s.counter .curveDamage)
      ∧ (v.points ≠ [] → v.damaged = false → worn wear v.badBits = 2 →
          w.damaged = true ∧ Bits.has Flag.eccDamage.index t.report.conditions.raised = true
            ∧ t.counter .curveDamage = (s.counter .curveDamage).rise 1
            ∧ t.counter .curveCorrection = s.counter .curveCorrection)
      ∧ s.keepsAllBut [.curves, .conditions, .counters] t
      ∧ ∀ other m, ¬(other = bank ∧ m = n) → t.curves.slot other m = s.curves.slot other m := by
  intro v t w
  have hslot : w = v.tested wear := s.slotAccess_slot_self bank n wear
  refine ⟨(s.slotAccess_same bank n wear).points bank n, fun hsettled => ?settled, fun hpoints hmark hzero => ?good,
    fun hpoints hmark hone => ?corrected, fun hpoints hmark htwo => ?damaged,
    State.keepsAllBut_of_leavesBut (s.slotAccess_leaves bank n wear), fun other m h => s.slotAccess_slot_other bank n wear h⟩
  case settled =>
    obtain ⟨htested, hquiet⟩ := Slot.settled hsettled wear
    refine ⟨hslot.trans htested, fun c => ?_⟩
    show (s.slotAccess bank n wear).counter c = _
    rw [s.slotAccess_quiet bank n hquiet]
    rfl
  case good =>
    obtain ⟨hfinding, htested⟩ := Slot.unmarked hpoints hmark wear
    refine ⟨hslot.trans (htested.trans (if_pos (by omega))), fun c => ?_⟩
    show (s.slotAccess bank n wear).counter c = _
    rw [s.slotAccess_quiet bank n (.inl (hfinding.trans (if_pos hzero)))]
    rfl
  case corrected =>
    obtain ⟨hfinding, htested⟩ := Slot.unmarked hpoints hmark wear
    have haccess := s.slotAccess_corrected bank n (hfinding.trans ((if_neg (by omega)).trans (if_pos hone)))
    refine ⟨hslot.trans (htested.trans (if_pos (by omega))), ?_, ?_, ?_⟩
    · show Bits.has _ (s.slotAccess bank n wear).report.conditions.raised = true
      rw [haccess, State.raise_report, Reporting.raise_conditions, ConditionUnit.raise_raised]
      rfl
    · show (s.slotAccess bank n wear).counter _ = _
      rw [haccess, State.raise_counter, State.count_counter, if_pos rfl]
      rfl
    · show (s.slotAccess bank n wear).counter _ = _
      rw [haccess, State.raise_counter, State.count_counter, if_neg (by decide)]
      rfl
  case damaged =>
    obtain ⟨hfinding, htested⟩ := Slot.unmarked hpoints hmark wear
    have haccess := s.slotAccess_damaged bank n (hfinding.trans ((if_neg (by omega)).trans (if_neg (by omega)))) hmark
    refine ⟨?_, ?_, ?_, ?_⟩
    · rw [hslot, htested, if_neg (by omega)]
    · show Bits.has _ (s.slotAccess bank n wear).report.conditions.raised = true
      rw [haccess, State.raise_report, Reporting.raise_conditions, ConditionUnit.raise_raised]
      rfl
    · show (s.slotAccess bank n wear).counter _ = _
      rw [haccess, State.raise_counter, State.count_counter, if_pos rfl]
      rfl
    · show (s.slotAccess bank n wear).counter _ = _
      rw [haccess, State.raise_counter, State.count_counter, if_neg (by decide)]
      rfl

/-! ## CURVE LOAD and CURVE READ -/

theorem fieldAt_one (i : Nat) (args : List Octet) : fieldAt i 1 args = (octetAt i args).toNat := by
  have hdrop : octetAt i args = octetAt 0 (args.drop i) := by
    simp [octetAt, List.getD_eq_getElem?_getD, List.getElem?_drop]
  rw [hdrop, ← fieldAt_zero_one]
  rfl

theorem Bank.other_eq (bank : Bank) : bank.other = if bank = .a then .b else .a := by cases bank <;> rfl

theorem curveInRange_iff (slot count : Nat) (points : List Point) :
    curveInRange slot count points = true ↔
      slot ≤ 31 ∧ count ≠ 1 ∧ count ≤ 9 ∧ ∀ p ∈ points, p.height ≤ 3000 ∧ p.fill ≤ 1000 := by
  simp [curveInRange, and_assoc]

/-- CURVE LOAD of an unlocked unit (R32). -/
theorem exec_curveLoad_unlocked {r : Request} {s : State} (h : s.offers .curveLoad r) (hlock : s.mgmt.lock = none) :
    let slot := (octetAt 0 r.args).toNat
    let count := (octetAt 1 r.args).toNat
    let points := argPoints (r.args.drop 2)
    let other := if s.curves.active = .a then Bank.b else Bank.a
    exec .curveLoad s = .next
      (if slot ≤ 31 ∧ count ≠ 1 ∧ count ≤ 9 ∧ ∀ p ∈ points, p.height ≤ 3000 ∧ p.fill ≤ 1000 then
        ({ s with
          curves := s.curves.setSlot other slot { points := points, badBits := 0, damaged := false } } : State).answered
          .curveLoad r .done [other.code]
      else s.answered .curveLoad r .badValue []) := by
  intro slot count points other
  have hserved : exec .curveLoad s = .next (s.serveCurveLoad r.args) :=
    congrArg Host.Outcome.next ((State.serve_of_offers h _ _).trans (State.unlessLocked_of_unlocked hlock _))
  rw [hserved, State.serveCurveLoad, fieldAt_one, fieldAt_one]
  have hbank : s.curves.active.other = other := Bank.other_eq _
  by_cases hrange : curveInRange slot count points = true
  · rw [if_pos ((curveInRange_iff _ _ _).1 hrange)]
    dsimp only
    rw [if_pos (show curveInRange (octetAt 0 r.args).toNat _ _ = true from hrange), hbank]
    obtain ⟨-, -, hhead, hkind, -⟩ := h
    exact congrArg Host.Outcome.next (State.reply_of_mgmt (s := s) (by exact rfl) hhead hkind _ _)
  · rw [if_neg fun hr => hrange ((curveInRange_iff _ _ _).2 hr)]
    dsimp only
    rw [if_neg (show ¬ curveInRange (octetAt 0 r.args).toNat _ _ = true from hrange), State.reply_answers h]

theorem bankOf_eq_none {octet : Octet} (h : 1 < octet.toNat) : bankOf octet = none := by
  have hzero : octet ≠ 0 := fun e => absurd (e ▸ h) (by decide)
  have hone : octet ≠ 1 := fun e => absurd (e ▸ h) (by decide)
  rw [bankOf, if_neg hzero, if_neg hone]

/-- CURVE READ of a bank's slot (R33). -/
theorem exec_curveRead_bank {r : Request} {s : State} (h : s.offers .curveRead r) {bank : Bank}
    (hbank : bankOf (octetAt 0 r.args) = some bank) (hslot : (octetAt 1 r.args).toNat ≤ 31) (wear : Wear) :
    let slot := (octetAt 1 r.args).toNat
    let v := s.curves.slot bank slot
    let damaged := v.points ≠ [] ∧ (v.damaged = true ∨ 2 ≤ worn wear v.badBits)
    (damaged → exec (.curveRead wear) s = .next
        ((s.slotAccess bank slot wear).answered .curveRead r .damaged [s.curves.active.code]))
      ∧ (¬damaged → exec (.curveRead wear) s = .next
        ((s.slotAccess bank slot wear).answered .curveRead r .done
          ([s.curves.active.code] ++ beOctets 1 v.points.length ++ pointOctets v.points))) := by
  intro slot v damaged
  have hserved : exec (.curveRead wear) s = .next (s.serveCurveRead wear r.args) :=
    congrArg Host.Outcome.next (State.serve_of_offers h _ _)
  have hmgmt : (s.slotAccess bank slot wear).mgmt = s.mgmt := s.slotAccess_leaves bank slot wear .mgmt (by decide)
  obtain ⟨-, -, hhead, hkind, -⟩ := h
  have hfound : v.finding wear = .damaged ↔ damaged := Slot.finding_damaged wear v
  rw [hserved, State.serveCurveRead, hbank, fieldAt_one]
  dsimp only
  rw [if_neg (Nat.not_lt_of_le hslot)]
  constructor
  · intro hdamaged
    rw [if_pos (show Slot.finding wear (s.curves.slot bank (octetAt 1 r.args).toNat) = .damaged from hfound.2 hdamaged)]
    exact congrArg Host.Outcome.next (State.reply_of_mgmt hmgmt hhead hkind _ _)
  · intro hfine
    rw [if_neg (show ¬ Slot.finding wear (s.curves.slot bank (octetAt 1 r.args).toNat) = .damaged from
      fun hf => hfine (hfound.1 hf))]
    exact congrArg Host.Outcome.next (State.reply_of_mgmt hmgmt hhead hkind _ _)

/-- Settles O40: the two requests, and the slot access. -/
theorem curvesAreLoadedReadAndTested : Obligations.CurvesAreLoadedReadAndTested := by
  refine ⟨⟨fun r s h hlock => exec_curveLoad_unlocked h hlock, ?_⟩, fun bank n wear s => slotAccess_rules bank n wear s⟩
  intro wear r s h slot active read
  have hserved : exec (.curveRead wear) s = .next (s.serveCurveRead wear r.args) :=
    congrArg Host.Outcome.next (State.serve_of_offers h _ _)
  refine ⟨fun hbad => ?_, fun hslot hbank => ?_, fun hslot hbank => ?_⟩
  · rw [hserved, State.serveCurveRead, fieldAt_one, ← State.reply_answers h]
    by_cases hbank : 1 < (octetAt 0 r.args).toNat
    · rw [bankOf_eq_none hbank]
    · split
      · rfl
      · rw [if_pos (show 31 < (octetAt 1 r.args).toNat from hbad.resolve_right hbank)]
  · exact exec_curveRead_bank h (by rw [hbank]; rfl) hslot wear
  · exact exec_curveRead_bank h (by rw [hbank]; rfl) hslot wear

/-! ## CURVE SWAP -/

/-- The lock reason of a slot that fails the slot test (R34). -/
def Slot.verdict (w : Wear) (v : Slot) : Option LockReason :=
  if v.points = [] then none
  else if v.finding w = .damaged then some .curveDamaged
  else if shapeHolds v.points = true then none
  else some .curveInvalid

/-- One slot of the test: it ends with the slot's verdict, or goes on with that slot as its access left it. -/
theorem State.testSlots_cons (bank : Bank) (slot : Nat) (rest : List Nat) (wear : List Wear) (s : State) :
    let w := wear.headD .steady
    let t := if (s.curves.slot bank slot).present = true then s.slotAccess bank slot w else s
    s.testSlots bank (slot :: rest) wear =
      match (s.curves.slot bank slot).verdict w with
      | some reason => (t, some (reason, slot))
      | none => t.testSlots bank rest wear.tail := by
  dsimp only
  rw [State.testSlots]
  unfold Slot.verdict
  by_cases hpresent : (s.curves.slot bank slot).present = true
  · simp only [hpresent, if_true, Slot.present_eq_true.1 hpresent, if_false]
    by_cases hdamaged : (s.curves.slot bank slot).finding (wear.headD .steady) = .damaged
    · simp only [hdamaged, if_true]
    · by_cases hshape : shapeHolds (s.curves.slot bank slot).points = true
      · simp only [hdamaged, hshape, if_true, if_false]
      · simp only [hdamaged, hshape, if_false, Bool.false_eq_true]
  · simp only [hpresent, if_false, Bool.false_eq_true, Slot.present_eq_false.1 (eq_false_of_ne_true hpresent), if_true]

section SlotTest

variable {bank : Bank} {wear : List Wear} {s : State}

/-- The test comes to each slot as it stood when the test began. -/
theorem State.testSlots_verdict {start len : Nat} {u : State}
    (hsame : ∀ i, start ≤ i → u.curves.slot bank i = s.curves.slot bank i) :
    ((∀ i, start ≤ i → i < start + len → (s.curves.slot bank i).verdict (wear.getD i .steady) = none) →
        (u.testSlots bank (List.range' start len) (wear.drop start)).2 = none)
      ∧ ∀ i reason, start ≤ i → i < start + len → (s.curves.slot bank i).verdict (wear.getD i .steady) = some reason →
          (∀ j, start ≤ j → j < i → (s.curves.slot bank j).verdict (wear.getD j .steady) = none) →
          (u.testSlots bank (List.range' start len) (wear.drop start)).2 = some (reason, i) := by
  induction len generalizing start u with
  | zero => exact ⟨fun _ => rfl, fun i _ hi hlt => absurd hlt (Nat.not_lt_of_le hi)⟩
  | succ len ih =>
    have hhead : (wear.drop start).headD .steady = wear.getD start .steady := by
      simp [List.headD_eq_head?_getD, List.head?_drop, List.getD_eq_getElem?_getD]
    have hnext (w : Wear) : ∀ i, start + 1 ≤ i →
        (if (u.curves.slot bank start).present = true then u.slotAccess bank start w else u).curves.slot bank i =
          s.curves.slot bank i := fun i hi => by
      split
      · rw [u.slotAccess_slot_other bank start w (by omega), hsame i (by omega)]
      · exact hsame i (by omega)
    obtain ⟨hpass, hfail⟩ := ih (hnext (wear.getD start .steady))
    rw [List.range'_succ, State.testSlots_cons, hhead, hsame start (Nat.le_refl _), List.tail_drop]
    rw [hsame start (Nat.le_refl _)] at hpass hfail
    constructor
    · intro hnone
      rw [hnone start (Nat.le_refl _) (by omega)]
      exact hpass fun i hi hlt => hnone i (by omega) (by omega)
    · intro i reason hi hlt hverdict hbefore
      rcases Nat.eq_or_lt_of_le hi with rfl | hless
      · rw [hverdict]
      · rw [hbefore start (Nat.le_refl _) hless]
        exact hfail i reason hless (by omega) hverdict fun j hj hji => hbefore j (by omega) hji

/-- The slot test leaves every curve and the active bank. -/
theorem State.testSlots_same (s : State) (bank : Bank) (slots : List Nat) (wear : List Wear) :
    s.curves.Same (s.testSlots bank slots wear).1.curves :=
  State.testSlots_curves (P := s.curves.Same) (fun _ bank n w h => h.access bank n w) (.refl _) bank slots wear

end SlotTest

theorem Slot.verdict_eq_none_iff (w : Wear) (v : Slot) :
    v.verdict w = none ↔
      ¬ (v.points ≠ [] ∧ ((v.damaged = true ∨ 2 ≤ worn w v.badBits) ∨ shapeHolds v.points = false)) := by
  unfold Slot.verdict
  by_cases hpoints : v.points = []
  · simp [hpoints]
  · have hfound : v.finding w = .damaged ↔ v.damaged = true ∨ 2 ≤ worn w v.badBits :=
      (Slot.finding_damaged w v).trans (and_iff_right hpoints)
    by_cases hdamaged : v.damaged = true ∨ 2 ≤ worn w v.badBits
    · simp [hpoints, hfound, hdamaged]
    · simp [hpoints, hfound, hdamaged]

/-- The reason of a slot that fails says whether it is damaged. -/
theorem Slot.verdict_eq_some {w : Wear} {v : Slot} {reason : LockReason} (h : v.verdict w = some reason) :
    (v.damaged = true ∨ 2 ≤ worn w v.badBits → reason = .curveDamaged)
      ∧ (¬ (v.damaged = true ∨ 2 ≤ worn w v.badBits) → reason = .curveInvalid) := by
  unfold Slot.verdict at h
  by_cases hpoints : v.points = []
  · simp [hpoints] at h
  · have hfound : v.finding w = .damaged ↔ v.damaged = true ∨ 2 ≤ worn w v.badBits :=
      (Slot.finding_damaged w v).trans (and_iff_right hpoints)
    by_cases hdamaged : v.damaged = true ∨ 2 ≤ worn w v.badBits
    · rw [if_neg hpoints, if_pos (hfound.2 hdamaged)] at h
      exact ⟨fun _ => (Option.some.inj h).symm, fun hno => absurd hdamaged hno⟩
    · rw [if_neg hpoints, if_neg fun hf => hdamaged (hfound.1 hf)] at h
      split at h
      · cases h
      · exact ⟨fun hyes => absurd hyes hdamaged, fun _ => (Option.some.inj h).symm⟩

/-- A lock after work that left the Management Unit alone answers the request at the head of its queue. -/
theorem State.lockAndReply_of_mgmt {s t : State} {k : RequestKind} {r : Request} (hmgmt : t.mgmt = s.mgmt)
    (hhead : s.mgmt.queue.head? = some r) (hkind : r.kind = k.code) (reason : LockReason) (number : Nat) :
    t.lockAndReply reason number = t.lockedBy k r reason number :=
  State.lockAndReply_eq (by rw [hmgmt]; exact hhead) hkind reason number

/-- The bin scan in its grant (R35, R36). -/
theorem execBinScan_of_grant {s : State} {n : Nat} (wear : Wear) (hstage : s.mgmt.stage = .scan n)
    (hgrant : s.portGrant = some .managementUnit) :
    execBinScan wear s =
      let t := (s.granted .managementUnit).access .read false n wear
      let b := t.bin n
      if s.finding .read n wear ≠ .damaged ∧ b.fill.service = .active
          ∧ (t.curves.slot t.curves.active.other b.record.curve).present = false then
        .next (t.lockAndReply .curveMissing n)
      else .next (t.scanOn n) := by
  unfold execBinScan
  rw [hstage]
  exact if_pos hgrant

/-- Settles O39: the slot test, the bin scan and the exchange. -/
theorem curveSwapTestsScansAndExchanges : Obligations.CurveSwapTestsScansAndExchanges := by
  constructor
  · intro wear r s h hlock slot damaged fails
    have hserved : exec (.curveSwap wear) s = .next (s.serveCurveSwap wear) :=
      congrArg Host.Outcome.next ((State.serve_of_offers h _ _).trans (State.unlessLocked_of_unlocked hlock _))
    have hverdict (i : Nat) : (slot i).verdict (wear.getD i .steady) = none ↔ ¬ fails i := Slot.verdict_eq_none_iff _ _
    obtain ⟨hpass, hfail⟩ := State.testSlots_verdict (bank := s.curves.active.other) (wear := wear) (s := s) (u := s)
      (start := 0) (len := 32) (fun _ _ => rfl)
    have hsame := s.testSlots_same s.curves.active.other (List.range 32) wear
    have hleaves := s.testSlots_leaves s.curves.active.other (List.range 32) wear
    rw [← List.range_eq_range', List.drop_zero] at hpass hfail
    rw [hserved, State.serveCurveSwap]
    generalize s.testSlots s.curves.active.other (List.range 32) wear = tested at hpass hfail hsame hleaves
    dsimp only
    have hmgmt : tested.1.mgmt = s.mgmt := hleaves .mgmt (by decide)
    constructor
    · intro hnone
      rw [hpass fun i _ hi => (hverdict i).2 (hnone i (by omega))]
      refine ⟨_, rfl, ?_, hsame.points, hsame.active, State.keepsAllBut_of_leavesBut
        (State.leavesBut_step (State.leavesBut_mono hleaves (by decide)) (State.onMgmt_leaves _ _) (by decide))⟩
      rw [State.onMgmt_mgmt, hmgmt]
    · intro i hi hfails hbefore
      obtain ⟨reason, hreason⟩ := Option.ne_none_iff_exists'.1 fun hnone => (hverdict i).1 hnone hfails
      rw [hfail i reason (Nat.zero_le _) (by omega) hreason fun j _ hj => (hverdict j).2 (hbefore j hj)]
      obtain ⟨hdamaged, hinvalid⟩ := Slot.verdict_eq_some hreason
      obtain ⟨-, -, hhead, hkind, -⟩ := h
      exact ⟨reason, tested.1, congrArg Host.Outcome.next (State.lockAndReply_of_mgmt hmgmt hhead hkind _ _), hdamaged,
        hinvalid, hsame.points, hsame.active, State.keepsAllBut_of_leavesBut hleaves⟩
  · intro r s _ hhead hkind other
    have hother : s.curves.active.other = other := Bank.other_eq _
    refine ⟨fun n wear hstage hgrant => ?_, fun hstage hidle => ?_, fun hstage hbusy => ?_⟩
    · intro next read
      constructor
      · intro hreadable
        have hfound : s.finding .read n wear ≠ .damaged := fun h =>
          absurd ((s.finding_damaged (by decide) n wear).1 h) (Nat.not_le_of_lt (Nat.lt_succ_of_le hreadable))
        have hmgmt : read.mgmt = s.mgmt := s.readThrough_mgmt _ _ _
        have hcurves : read.curves = s.curves := s.readThrough_leaves .managementUnit n wear .curves (by decide)
        show execBinScan wear s = _
        rw [execBinScan_of_grant wear hstage hgrant, s.access_readable .managementUnit (by decide) false n hreadable]
        dsimp only
        rw [State.readThrough_fill, State.readThrough_record, show (s.readThrough .managementUnit n wear).curves = s.curves
          from hcurves, hother]
        by_cases hmissing : (s.bin n).fill.service = .active ∧ (s.curves.slot other (s.bin n).record.curve).points = []
        · rw [if_pos hmissing, if_pos ⟨hfound, hmissing.1, Slot.present_eq_false.2 hmissing.2⟩]
          exact congrArg Host.Outcome.next (State.lockAndReply_of_mgmt hmgmt hhead hkind _ _)
        · rw [if_neg hmissing, if_neg fun hno => hmissing ⟨hno.2.1, Slot.present_eq_false.1 hno.2.2⟩]
          refine congrArg Host.Outcome.next ?_
          rw [State.scanOn, State.onMgmt, show (s.readThrough .managementUnit n wear).mgmt = s.mgmt from hmgmt,
            show (s.readThrough .managementUnit n wear).curves = s.curves from hcurves]
      · intro hdamaged
        have hfound := (s.finding_damaged (kind := .read) (by decide) n wear).2 hdamaged
        show execBinScan wear s = _
        rw [execBinScan_of_grant wear hstage hgrant, s.access_damaged .managementUnit (by decide) false n hfound]
        dsimp only
        rw [if_neg fun hno => hno.1 hfound, State.scanOn, State.onMgmt, State.foundDamaged_mgmt]
    · show execBankExchange s = _
      unfold execBankExchange
      rw [if_pos ⟨hstage, hidle⟩, hother]
      exact congrArg Host.Outcome.next (State.reply_of_mgmt (s := s) (by exact rfl) hhead hkind _ _)
    · show execBankExchange s = _
      unfold execBankExchange
      rw [if_neg fun hno => hbusy hno.2]

end Sys2Proof.Machine

/-! The Reading Unit: the curve and the Test Generator's echo (R66, R70, R73), the record fetch (R46 to R51), the fill
computation (R57 to R70) and the application (R53 to R56). -/

namespace Sys2Proof.Machine

/-! ## The curve -/

theorem pointsRise_cons {p q : Point} {rest : List Point} (h : pointsRise (p :: q :: rest) = true) :
    p.height < q.height ∧ p.fill ≤ q.fill ∧ pointsRise (q :: rest) = true := by
  simpa [pointsRise, and_assoc] using h

/-- The heights of a rising curve never fall below its first. -/
theorem height_le_of_pointsRise {p : Point} {rest : List Point} (h : pointsRise (p :: rest) = true) :
    ∀ q ∈ rest, p.height ≤ q.height := by
  induction rest generalizing p with
  | nil => exact fun q hq => absurd hq List.not_mem_nil
  | cons q rest ih =>
    obtain ⟨hless, -, hrest⟩ := pointsRise_cons h
    intro r hr
    rcases List.mem_cons.1 hr with rfl | hr
    · exact Nat.le_of_lt hless
    · exact Nat.le_trans (Nat.le_of_lt hless) (ih hrest r hr)

/-- The part of a curve up to a height is passed over. -/
theorem rawFill_cons_of_le {p q : Point} {rest : List Point} {h : Nat} (hle : q.height ≤ h) :
    rawFill h (p :: q :: rest) = rawFill h (q :: rest) := if_neg (Nat.not_lt_of_le hle)

theorem rawFill_of_last_le {points : List Point} (hrises : pointsRise points = true) {last : Point} {h : Nat}
    (hlast : points.getLast? = some last) (hle : last.height ≤ h) : rawFill h points = last.fill := by
  induction points with
  | nil => simp at hlast
  | cons p rest ih =>
    cases rest with
    | nil =>
      obtain rfl : p = last := by simpa using hlast
      rfl
    | cons q rest =>
      obtain ⟨-, -, hrest⟩ := pointsRise_cons hrises
      rw [List.getLast?_cons_cons] at hlast
      have hq : q.height ≤ last.height := by
        rcases List.mem_cons.1 (List.mem_of_getLast? hlast) with rfl | hmem
        · exact Nat.le_refl _
        · exact height_le_of_pointsRise hrest last hmem
      rw [rawFill_cons_of_le (Nat.le_trans hq hle), ih hrest hlast]

theorem rawFill_between {before after : List Point} {p q : Point} {h : Nat}
    (hrises : pointsRise (before ++ p :: q :: after) = true) (hp : p.height ≤ h) (hq : h < q.height) :
    rawFill h (before ++ p :: q :: after) = p.fill + (q.fill - p.fill) * (h - p.height) / (q.height - p.height)
      ∧ p.fill ≤ q.fill := by
  induction before with
  | nil => exact ⟨if_pos hq, (pointsRise_cons hrises).2.1⟩
  | cons x before ih =>
    obtain ⟨y, rest, hrest⟩ : ∃ y rest, before ++ p :: q :: after = y :: rest := by
      cases before <;> exact ⟨_, _, rfl⟩
    rw [List.cons_append, hrest] at hrises
    obtain ⟨-, -, hlater⟩ := pointsRise_cons hrises
    have hy : y.height ≤ p.height := by
      have hmem : p ∈ y :: rest := hrest ▸ (by simp : p ∈ before ++ p :: q :: after)
      rcases List.mem_cons.1 hmem with rfl | hmem
      · exact Nat.le_refl _
      · exact height_le_of_pointsRise hlater p hmem
    rw [List.cons_append, hrest, rawFill_cons_of_le (Nat.le_trans hy hp), ← hrest]
    exact ih (hrest ▸ hlater)

theorem pointsRise_of_shapeHolds {points : List Point} (h : shapeHolds points = true) : pointsRise points = true := by
  cases points with
  | nil => rfl
  | cons p rest =>
    simp only [shapeHolds, Bool.and_eq_true] at h
    exact h.2

/-- Settles O43: above the last point, and between two. -/
theorem curveIsInterpolated : Obligations.CurveIsInterpolated := by
  intro points h _ hshape
  have hrises := pointsRise_of_shapeHolds hshape
  refine ⟨fun last hlast hle => rawFill_of_last_le hrises hlast hle, fun before after p q hpoints hp hq => ?_⟩
  subst hpoints
  obtain ⟨hfill, hle⟩ := rawFill_between hrises hp hq
  have hpart : (q.fill - p.fill) * (h - p.height) / (q.height - p.height) ≤ q.fill - p.fill :=
    Nat.div_le_of_le_mul (by
      rw [Nat.mul_comm]
      exact Nat.mul_le_mul_right _ (by omega))
  exact ⟨hfill, hfill ▸ Nat.le_add_right _ _, hfill ▸ Nat.add_le_of_le_sub' hle hpart⟩

/-! ## Litres, and the Test Generator's echo -/

/-- Settles O45: at 20 °C the speed factor is 343,420. -/
theorem generatorEchoGivesItsDistance : Obligations.GeneratorEchoGivesItsDistance := by
  refine ⟨fun filtered capacity => ⟨rfl, fun hfiltered hcapacity => ?_⟩, fun d hlow hhigh => ?_⟩
  · exact Nat.div_le_of_le_mul (Nat.mul_le_mul hfiltered hcapacity)
  · have hdistance (echo : Nat) : (distanceOf echo 20 : Int) = min ((echo : Int) * 343420 / 2000000) 4095 :=
      distanceOf_eq_min_ediv echo (by decide)
    have hecho := hdistance (echoFor d)
    have hshorter := hdistance (echoFor d - 1)
    unfold echoFor at *
    omega

/-! ## The record fetch -/

theorem Reading.isTest_eq (r : Reading) : r.isTest = decide (r.lane = 8) := by
  rw [Reading.isTest, Bool.eq_iff_iff]
  simp

theorem State.park_eq (u : State) (t : Taken) :
    u.park t =
      if u.table.park.length < 32 then
        State.count .parkedReading 1
          { u with
            reader := .idle
            table :=
              { u.table with
                park :=
                  u.table.park
                    ++ [{ reading := t.reading, arrival := if t.source = .arrivals then u.mgmt.partTime else t.arrival
                          released := false }] } }
      else (({ u with reader := .idle } : State).raise .parkFull).count .parkOverflow 1 := by
  unfold State.park
  by_cases hroom : u.table.park.length < 32
  · rw [if_pos hroom, if_pos (show u.table.park.length < Config.parkRoom from hroom), ← Taken.parkTime_eq]
    rfl
  · rw [if_neg hroom, if_neg (show ¬ u.table.park.length < Config.parkRoom from hroom)]
    rfl

/-- The sequence check row by row (R50, R51). -/
theorem State.checkSequence_eq (u : State) (t : Taken) (b : Bin) :
    let accepted := fun (gapCount gapGain : Nat) (restart : Bool) =>
      { u with
        reader :=
          .compute
            { taken := t, record := b.record, fill := b.fill, generation := b.generation, gapCount := gapCount
              gapGain := gapGain, sensorRestart := restart } }
    u.checkSequence t b =
      match b.fill.lastSequence with
      | none => accepted b.fill.gapCount 0 false
      | some last =>
        let d := (t.reading.sequence + (256 - last % 256)) % 256
        if b.fill.stale = true then accepted b.fill.gapCount 0 false
        else if d = 0 then ({ u with reader := .idle } : State).count .repeated 1
        else if d ≤ 127 then accepted (min (b.fill.gapCount + (d - 1)) 255) (d - 1) false
        else if b.fill.outOfOrderRun < 2 then
          State.count .outOfOrder 1 { u with reader := .runWrite t b.generation (b.fill.outOfOrderRun + 1) }
        else accepted b.fill.gapCount 0 true := by
  unfold State.checkSequence judgeSequence sequenceStep
  dsimp only
  cases b.fill.lastSequence with
  | none => rfl
  | some last =>
    dsimp only
    by_cases hstale : b.fill.stale = true
    · rw [if_pos hstale, if_pos hstale]
      rfl
    · rw [if_neg hstale, if_neg hstale]
      by_cases hsame : (t.reading.sequence + (256 - last % 256)) % 256 = 0
      · rw [if_pos hsame, if_pos hsame]
        rfl
      · rw [if_neg hsame, if_neg hsame]
        by_cases hforward : (t.reading.sequence + (256 - last % 256)) % 256 ≤ 127
        · rw [if_pos hforward, if_pos hforward]
          rfl
        · rw [if_neg hforward, if_neg hforward]
          by_cases hrun : b.fill.outOfOrderRun < 2
          · rw [if_pos hrun, if_pos hrun]
            rfl
          · rw [if_neg hrun, if_neg hrun]
            rfl

/-- The checks that come before the sequence check (R47 to R49). -/
theorem State.checkReading_eq (u : State) (t : Taken) (b : Bin) :
    let idle := { u with reader := .idle }
    u.checkReading t b =
      if b.fill.service = .off then idle.count .unknownBin 1
      else if b.fill.service = .fault then idle.count .faultDrop 1
      else if b.record.tag ≠ t.reading.tag then idle.count .tagMismatch 1
      else if t.reading.lane = 8 ∧ b.record.testBin = false then idle.count .testRefused 1
      else if u.isHeld t.reading.bin = true then u.park t
      else u.checkSequence t b := by
  unfold State.checkReading
  rw [Reading.isTest_eq]
  simp only [Bool.and_eq_true, Bool.not_eq_true', decide_eq_true_eq]
  cases b.fill.service <;> rfl

/-- Settles O41: the checks in order, then parking and the sequence check. -/
theorem recordFetchMakesItsChecksInOrder : Obligations.RecordFetchMakesItsChecksInOrder := by
  intro t wear s _ hreader hgrant hreadable b u idle accepted
  have hfound : s.finding .read t.reading.bin wear ≠ .damaged := fun h =>
    absurd ((s.finding_damaged (by decide) _ wear).1 h) (Nat.not_le_of_lt (Nat.lt_succ_of_le hreadable))
  have hexec := execRecordFetch_of_grant wear hreader hgrant
  rw [if_neg hfound, s.access_readable .readingUnit (by decide) _ _ hreadable] at hexec
  have hleaves := s.readThrough_leaves .readingUnit t.reading.bin wear
  have hsegments : u.isHeld t.reading.bin = s.isHeld t.reading.bin :=
    congrArg (Table.has (segmentOf t.reading.bin)) (hleaves .segments (by decide)).2
  have hpark : u.table.park = s.table.park := hleaves .park (by decide)
  have htime : u.mgmt.partTime = s.mgmt.partTime := congrArg ManagementUnit.partTime (s.readThrough_mgmt _ _ _)
  show execRecordFetch wear s = _
  rw [hexec, State.checkReading_eq, State.readThrough_fill, State.readThrough_record, hsegments, State.park_eq, hpark, htime,
    State.checkSequence_eq, State.readThrough_fill, State.readThrough_record, State.readThrough_generation]
    <;> rfl

/-! ## The fill computation -/

/-- Settles O47: the hold tests that need no curve, then the curve slot. -/
theorem fillComputationGivesItsResult : Obligations.FillComputationGivesItsResult := by
  intro a wear s hreader r slot read held
  show execFillComputation wear s = _
  unfold execFillComputation echoStage
  rw [hreader]
  dsimp only
  by_cases htilt : r.tilt = true
  · rw [if_pos htilt, if_pos htilt]
    rfl
  · rw [if_neg htilt, if_neg htilt]
    by_cases hlid : a.record.kind = .glass ∧ r.lidOpen = true
    · rw [if_pos hlid, if_pos hlid]
      rfl
    · rw [if_neg hlid, if_neg hlid]
      cases chooseEcho a.record.kind r.echoes with
      | none => rfl
      | some echo =>
        dsimp only
        by_cases habsent : slot.points = []
        · rw [if_pos habsent, if_neg fun h => Slot.present_eq_true.1 h habsent]
        · rw [if_neg habsent, if_pos (Slot.present_eq_true.2 habsent)]
          by_cases hdamaged : slot.damaged = true ∨ 2 ≤ worn wear slot.badBits
          · rw [if_pos hdamaged, if_pos ((Slot.finding_damaged wear slot).2 ⟨habsent, hdamaged⟩)]
            rfl
          · rw [if_neg hdamaged, if_neg fun h => hdamaged ((Slot.finding_damaged wear slot).1 h).2]
            rfl

/-! ## The application -/

theorem Reading.reception_eq (r : Reading) :
    r.reception = { lanes := BitVec.twoPow 9 r.lane, margin := r.margin, copies := 1 } := by
  rw [Reading.reception, Bits.put]
  simp

theorem Arrival.isOf_eq (r : Reading) : Arrival.isOf r = fun e => decide (e.bin = r.bin ∧ e.sequence = r.sequence) :=
  funext fun _ => Bool.eq_iff_iff.2 (Arrival.isOf_iff.trans decide_eq_true_iff.symm)

/-- The reception record that an application writes, by its entry or by the frame alone (R54). -/
theorem State.receptionFor_eq (s : State) (t : Taken) :
    s.receptionFor t =
      if t.source = .arrivals then
        match s.filter.entries.find? fun e => decide (e.bin = t.reading.bin ∧ e.sequence = t.reading.sequence) with
        | some e => { lanes := e.lanes, margin := e.margin, copies := e.copies }
        | none => { lanes := BitVec.twoPow 9 t.reading.lane, margin := t.reading.margin, copies := 1 }
      else { lanes := BitVec.twoPow 9 t.reading.lane, margin := t.reading.margin, copies := 1 } := by
  unfold State.receptionFor State.entryOf
  rw [Reading.reception_eq, Arrival.isOf_eq]
  cases t.source with
  | arrivals =>
    dsimp only
    cases s.filter.entries.find? fun e => decide (e.bin = t.reading.bin ∧ e.sequence = t.reading.sequence) <;> rfl
  | parkList => rfl

theorem ArrivalFilter.markApplied_eq (f : ArrivalFilter) (t : Taken) (generation : Nat) :
    f.markApplied t generation =
      { f with
        entries :=
          f.entries.map fun e =>
            if t.source = .arrivals ∧ e.bin = t.reading.bin ∧ e.sequence = t.reading.sequence then
              { e with generation := some generation }
            else e } := by
  unfold ArrivalFilter.markApplied
  cases t.source with
  | arrivals => simp [Arrival.isOf_iff]
  | parkList => simp

/-- The notices of an application, row by row (R83, R85). -/
theorem applicationNotices_eq (result : FillResult) (before after : FillState) :
    applicationNotices result before after =
      (if before.stale = true then [.back] else [])
        ++ (if before.fallen = false ∧ after.fallen = true then [.fallen] else [])
        ++ (if before.fallen = true ∧ after.fallen = false then [.upright] else [])
        ++ (if result.isEmptying = true then [.emptied] else [])
        ++ (if result.isComputed = true ∧ after.level = .full ∧ before.level ≠ .full then [.full] else []) := by
  simp [applicationNotices, and_assoc]

theorem State.count_withTest (s : State) (g : TestGenerator) (c : Ctr) (n : Nat) :
    State.count c n { s with test := g } = { s.count c n with test := g } := rfl

/-- The counts of an application, in the order of the statement: the Test Generator's count stands apart. -/
theorem State.countApplied_eq (s : State) (a : Accepted) (result : FillResult) :
    s.countApplied a result =
      let t := { s with test := if a.taken.reading.lane = 8 then { s.test with applied := min (s.test.applied + 1) 4294967295 } else s.test }
      let judged := (t.count .appliedReading 1).count .gap a.gapGain
      let restarted := if a.sensorRestart = true then judged.count .sensorRestart 1 else judged
      if result.isEmptying = true then restarted.count .emptying 1 else restarted := by
  unfold State.countApplied
  rw [Reading.isTest_eq]
  simp only [decide_eq_true_eq]
  by_cases htest : a.taken.reading.lane = 8
  · rw [if_pos htest, if_pos htest]
    simp only [State.count_withTest]
    cases a.sensorRestart <;> cases result.isEmptying <;> simp only [if_true, if_false, reduceCtorEq, State.count_withTest] <;> rfl
  · rw [if_neg htest, if_neg htest]

/-- An application from what it writes, counts and tells. -/
theorem State.makeApplication_of {s changed : State} {a : Accepted} {result : FillResult} {b : Bin} {after : FillState}
    {notices : List NoticeKind}
    (hafter : b.fill.applied a result s.now (s.receptionFor a.taken) = after)
    (hnotices : applicationNotices result b.fill after = notices)
    (hchanged : State.postChange b.fill after (State.countApplied a result
      ((s.setBin a.taken.reading.bin { b with fill := after }).onFilter (ArrivalFilter.markApplied a.taken b.generation)))
        = changed) :
    s.makeApplication a result b =
      (notices.foldl (State.notify a.record.selection a.taken.reading.bin (some a.record.kind) a.taken.reading.isTest after)
        changed).readerTo .idle := by
  subst hafter hnotices hchanged
  rfl

/-- Settles O48: the application over a record that its repair, if any, finds readable, and over a damaged one. -/
theorem applicationWritesTheReading : Obligations.ApplicationWritesTheReading := by
  intro a result wear s _ hreader hgrant r b u damaged found ofReading reception heard after emptying filled notices marked written
    judged restarted changed
  constructor
  · intro hfine
    show execApplication wear s = _
    unfold execApplication
    rw [hreader]
    dsimp only
    rw [if_pos hgrant, State.access_writable s .readingUnit a.taken.reading.isTest a.taken.reading.bin hfine,
      State.writeThrough_bin_self]
    by_cases hgeneration : b.generation ≠ a.generation
    · rw [if_pos hgeneration, if_pos hgeneration]
      rfl
    · rw [if_neg hgeneration, if_neg hgeneration]
      by_cases hactive : b.fill.service ≠ .active
      · rw [if_pos hactive, if_pos hactive]
        rfl
      · rw [if_neg hactive, if_neg hactive]
        refine congrArg Host.Outcome.next ?_
        have hreception : u.receptionFor a.taken = reception := u.receptionFor_eq a.taken
        have hafter : b.fill.applied a result u.now (u.receptionFor a.taken) = after := by
          rw [hreception]
          cases result <;> rfl
        have hnotices : applicationNotices result b.fill after = notices := by
          rw [applicationNotices_eq]
          cases result <;> rfl
        have hchanged : State.postChange b.fill after (State.countApplied a result
            ((u.setBin r.bin { b with fill := after }).onFilter (ArrivalFilter.markApplied a.taken b.generation)))
              = changed := by
          rw [State.countApplied_eq, State.onFilter, ArrivalFilter.markApplied_eq]
          cases result <;> rfl
        rw [State.makeApplication_of hafter hnotices hchanged, Reading.isTest_eq]
        rfl
  · intro hdamaged
    have hfound : s.finding .write r.bin wear = .damaged := (s.finding_write_damaged _ _).2 hdamaged
    have hgeneration : (found.bin r.bin).generation = (s.bin r.bin).generation := by rw [State.foundDamaged_bin]
    show execApplication wear s = _
    unfold execApplication
    rw [hreader]
    dsimp only
    rw [if_pos hgrant, State.access_damaged s .readingUnit (by decide) _ r.bin hfound, Reading.isTest_eq, hgeneration]
    by_cases hovertaken : (s.bin r.bin).generation ≠ a.generation
    · rw [if_pos hovertaken, if_pos hovertaken]
      rfl
    · rw [if_neg hovertaken, if_neg hovertaken, if_pos]
      · rfl
      · rw [← State.access_damaged s .readingUnit (by decide) _ r.bin hfound]
        exact State.access_damaged_not_active (s.granted .readingUnit) (by decide) _ hfound
end Sys2Proof.Machine

/-! Frames waiting on the trunk (R137 to R141), the refusals that come before a request's values (R144, R146, R147),
and the requests on time, zones and parameters (R97, R149 to R151). -/

namespace Sys2Proof.Machine

/-! ## The trunk -/

/-- Settles O18: a FOREIGN frame by its room, a request by the room of the queue and the refusal slot. -/
theorem trunkIngressIsRouted : Obligations.TrunkIngressIsRouted := by
  intro f rest s hingress t
  have hexec : exec .trunkIngressRoute s = .next (t.routeTrunk f) := by
    show execTrunkIngressRoute s = _
    rw [execTrunkIngressRoute, hingress]
  rw [hexec]
  refine congrArg Host.Outcome.next ?_
  cases f with
  | foreign payload => rfl
  | request r =>
    by_cases hroom : s.mgmt.queue.length < 4
    · exact (if_pos hroom).trans (if_pos hroom).symm
    · refine (if_neg hroom).trans (.trans ?_ (if_neg hroom).symm)
      unfold State.refuse
      cases hslot : s.trunk.refusal with
      | some refused =>
        exact (if_neg (Option.some_ne_none _)).symm
      | none =>
        exact (if_pos rfl).symm

/-- The pass-through class is granted when it waits and its turn has come. -/
theorem State.egressGrant_passThrough {s : State} (hwaits : s.trunk.passThrough ≠ [])
    (hturn : s.ownSource = none ∨ s.trunk.lastClass = .own) : s.egressGrant = some .passThrough := by
  obtain ⟨-, hboth, -, hlone, -⟩ := egressArbiterFollowsItsOrder s
  by_cases hown : s.ownSource = none
  · exact hlone hwaits hown
  · rw [hboth hwaits hown, if_pos (hturn.resolve_left hown)]

/-- The station's own frames are granted when one waits and their turn has come. -/
theorem State.egressGrant_own {s : State} {source : EgressSource} (hown : s.ownSource = some source)
    (hturn : s.trunk.passThrough = [] ∨ s.trunk.lastClass = .passThrough) : s.egressGrant = some source := by
  obtain ⟨-, hboth, halone, -⟩ := egressArbiterFollowsItsOrder s
  rw [← hown]
  by_cases hwaits : s.trunk.passThrough = []
  · exact halone hwaits
  · rw [hboth hwaits (hown ▸ Option.some_ne_none _), hturn.resolve_left hwaits]
    rfl

/-- Settles O19: each frame by the arbiter's order. -/
theorem waitingFramesAreSent : Obligations.WaitingFramesAreSent := by
  constructor
  · intro payload rest s
    constructor
    · intro hegress
      show execFieldEgressSend s = _
      rw [execFieldEgressSend, hegress]
      rfl
    · intro hwaits hturn
      show execPassThroughGrant s = _
      rw [execPassThroughGrant, State.egressGrant_passThrough (hwaits ▸ List.cons_ne_nil _ _) hturn, hwaits]
      rfl
  · intro r s hturn
    obtain ⟨-, -, -, -, hreplySource, hrefusalSource, -⟩ := egressArbiterFollowsItsOrder s
    constructor
    · intro hreply
      show execReplySlotGrant s = _
      rw [execReplySlotGrant, State.egressGrant_own (hreplySource.2 (hreply ▸ Option.some_ne_none r)) hturn, hreply]
      refine congrArg Host.Outcome.next ?_
      have hstage : s.mgmt.stage.afterReply = if s.mgmt.stage = .restartReply then .restartDue else s.mgmt.stage := by
        cases s.mgmt.stage <;> rfl
      rw [← hstage]
      rfl
    · intro hnone hrefusal
      show execRefusalSlotGrant s = _
      rw [execRefusalSlotGrant, State.egressGrant_own (hrefusalSource.2 ⟨hnone, hrefusal ▸ Option.some_ne_none r⟩) hturn,
        hrefusal]
      rfl

/-! ## Requests refused -/

/-- Every serving command serves its kind, and a table-changing one only while the unit is unlocked (R144, R146). -/
theorem exec_serves {c : Instr} {k : RequestKind} (hkind : servedKind c = some k) (s : State) :
    ∃ rule : List Octet → State → State,
      exec c s = .next (s.serve k (if k = .curveRead then [s.curves.active.code] else []) rule)
        ∧ (k.tableChanging = true → ∃ unlocked : List Octet → State → State, rule = fun args t => t.unlessLocked (unlocked args)) := by
  cases c
  case binLoad | curveLoad | curveSwap | protect | sweepStart =>
    obtain rfl := Option.some.inj hkind
    exact ⟨_, rfl, fun _ => ⟨_, rfl⟩⟩
  case info | timeSet | paramSet | paramRead | binRead | curveRead | zoneRead | hold | release | sweepSuspend | sweepResume
    | sweepRead | stop | clear | channelSet | channelClose | channelRead | credit | sync | alertSet | alertRead | alertClear
    | snapshot | statsRead | testStart | testStop | testRead | restart =>
    obtain rfl := Option.some.inj hkind
    exact ⟨_, rfl, fun h => absurd h (by decide)⟩
  all_goals exact nomatch hkind

/-- Settles O53: length, lock and unknown kind. -/
theorem requestsAreRefusedInOrder : Obligations.RequestsAreRefusedInOrder := by
  constructor
  · intro c k r s hserved hstage hreply hhead hkind
    obtain ⟨rule, hexec, hunlocked⟩ := exec_serves hserved s
    constructor
    · intro hlength
      rw [hexec, State.serve_wrong_length hstage hreply hhead hkind hlength]
    · intro reason number hlength hchanging hlock
      obtain ⟨unlocked, rfl⟩ := hunlocked hchanging
      have hoffers : s.offers k r := ⟨hstage, hreply, hhead, hkind, hlength⟩
      rw [hexec, State.serve_of_offers hoffers, State.unlessLocked, hlock, State.reply_answers hoffers]
      rfl
  · intro r s hstage hreply hhead hunknown
    have htakeable : s.takeable = some r := (if_pos ⟨hstage, hreply⟩).trans hhead
    have hkind : RequestKind.ofCode r.kind = none :=
      List.find?_eq_none.2 fun k _ => by simpa using fun h => hunknown k h.symm
    obtain ⟨rest, hqueue⟩ : ∃ rest, s.mgmt.queue = r :: rest := by
      cases hqueue : s.mgmt.queue with
      | nil => simp [hqueue] at hhead
      | cons x rest => exact ⟨rest, by rw [hqueue] at hhead; rw [Option.some.inj hhead]⟩
    show execUnknownRequest s = _
    rw [execUnknownRequest, htakeable]
    dsimp only
    rw [hkind]
    dsimp only
    rw [State.reply, hqueue]
    dsimp only
    rw [historyOf, hkind, ← hqueue]
    rfl

/-! ## Time, zones and INFO -/

theorem infoContent_eq (s : State) :
    s.infoContent =
      [0x4C, 0x24] ++ beOctets 1 s.mgmt.station ++ beOctets 1 s.mgmt.speed ++ beOctets 4 s.mgmt.partTime
        ++ (match s.mgmt.lock with
            | none => [0x00, 0x00, 0x00, 0x00]
            | some (reason, number) => 0x01 :: reason.code :: beOctets 2 number)
        ++ [s.mgmt.newer.code, s.mgmt.older.code, s.curves.active.code]
        ++ [0, 1, 2, 3, 4, 5, 6, 7, 8].flatMap fun lane => beOctets 1 (Table.get 0 lane s.field.activity) := by
  have hpart : beOctets 2 Config.partIdentification = [0x4C, 0x24] := by decide
  have hnone : beOctets 2 0 = [0x00, 0x00] := by decide
  unfold State.infoContent lockOctets
  rw [hpart, hnone]
  cases s.mgmt.lock <;> simp only [List.append_assoc] <;> rfl

/-- A reply that another block's or a field's change comes before: the head request is still the one served. -/
theorem State.reply_of_queue {s t : State} {k : RequestKind} {r : Request} (h : s.offers k r) (hqueue : t.mgmt.queue = s.mgmt.queue)
    (result : ResultCode) (content : List Octet) : t.reply result content = t.answered k r result content := by
  obtain ⟨-, -, hhead, hkind, -⟩ := h
  exact State.reply_eq_answered (hqueue ▸ hhead) hkind result content

/-- Settles O54: each request by its own rule. -/
theorem timeZoneAndInfoRequestsAreAnswered : Obligations.TimeZoneAndInfoRequestsAreAnswered := by
  intro r s
  refine ⟨fun h => ?info, fun h => ?timeSet, ?zoneRead, fun h => ?clear⟩
  case info =>
    have hserved : exec .info s = .next (s.reply .done s.infoContent) := congrArg Host.Outcome.next (State.serve_of_offers h _ _)
    rw [hserved, State.reply_answers h]
    exact congrArg (fun content => Host.Outcome.next (s.answered .info r .done content)) (infoContent_eq s)
  case timeSet =>
    have hserved : exec .timeSet s = .next (s.serveTimeSet r.args) := congrArg Host.Outcome.next (State.serve_of_offers h _ _)
    rw [hserved]
    exact congrArg Host.Outcome.next (State.reply_of_queue h (by exact rfl) _ _)
  case zoneRead =>
    intro h first count
    have hserved : exec .zoneRead s = .next (s.serveZoneRead r.args) := congrArg Host.Outcome.next (State.serve_of_offers h _ _)
    rw [hserved, State.serveZoneRead, fieldAt_one, fieldAt_one, State.reply_answers h, State.reply_answers h]
    by_cases hrange : 1 ≤ count ∧ count ≤ 8 ∧ first + count ≤ 64
    · rw [if_pos hrange]
      exact congrArg Host.Outcome.next (if_neg (by omega))
    · rw [if_neg hrange]
      exact congrArg Host.Outcome.next (if_pos (by omega))
  case clear =>
    have hserved : exec .clear s = .next ((s.onMgmt fun m => { m with lock := none }).reply .done []) :=
      congrArg Host.Outcome.next (State.serve_of_offers h _ _)
    rw [hserved]
    exact congrArg Host.Outcome.next (State.reply_of_queue h (by exact rfl) _ _)

end Sys2Proof.Machine

/-! The Sweep Engine (chapter 8): its requests and its visits. -/

namespace Sys2Proof.Machine

/-! ## Requests -/

theorem octet_ne_one_of_lt {o : Octet} (h : 1 < o.toNat) : o ≠ 1 := fun he => by rw [he] at h; exact absurd h (by decide)

theorem octet_eq_zero {o : Octet} (hle : ¬ 1 < o.toNat) (hne : o ≠ 1) : o = 0 := by
  have hne' : o.toNat ≠ 1 := fun h => hne (BitVec.eq_of_toNat_eq h)
  exact BitVec.eq_of_toNat_eq (show o.toNat = 0 by omega)

/-- The direction octet: 00H and 01H, and no other. -/
theorem directionOf_eq (o : Octet) :
    directionOf o = if 1 < o.toNat then none else some (if o = 1 then .down else .up) := by
  by_cases hbad : 1 < o.toNat
  · rw [if_pos hbad]
    have hzero : o ≠ 0 := fun he => by rw [he] at hbad; exact absurd hbad (by decide)
    exact (if_neg hzero).trans (if_neg (octet_ne_one_of_lt hbad))
  · rw [if_neg hbad]
    by_cases hone : o = 1
    · rw [hone]
      rfl
    · rw [octet_eq_zero hbad hone]
      rfl

theorem exec_sweepStart_unlocked {r : Request} {s : State} (h : s.offers .sweepStart r) (hlock : s.mgmt.lock = none) :
    exec .sweepStart s = .next (s.serveSweepStart r.args) :=
  congrArg Host.Outcome.next ((State.serve_of_offers h _ _).trans (State.unlessLocked_of_unlocked hlock _))

theorem rangeConsistent_iff (first last : Nat) (down : Prop) [Decidable down] :
    rangeConsistent first last (if down then .down else .up) = true ↔ ¬ ((down ∧ first < last) ∨ (¬ down ∧ last < first)) := by
  by_cases hdown : down <;> simp [hdown, rangeConsistent]

/-- Settles O52: each request by its own rule. -/
theorem sweepRequestsAreAnswered : Obligations.SweepRequestsAreAnswered := by
  intro r s
  refine ⟨?start, fun h => ?suspend, fun h => ?resume, fun h => ?stop, fun h => ?read⟩
  case start =>
    intro h hlock first last down direction started
    rw [exec_sweepStart_unlocked h hlock, State.serveSweepStart, directionOf_eq]
    refine congrArg Host.Outcome.next ?_
    by_cases hoctet : 1 < (octetAt 4 r.args).toNat
    · rw [if_pos hoctet, if_pos (.inl hoctet)]
      exact State.reply_answers h _ _
    · rw [if_neg hoctet]
      by_cases hbins : 4095 < first ∨ 4095 < last
      · exact (if_pos hbins).trans ((State.reply_answers h _ _).trans (if_pos (.inr hbins)).symm)
      · rw [if_neg (not_or.2 ⟨hoctet, hbins⟩)]
        refine (if_neg hbins).trans ?_
        by_cases hbusy : s.sweep.state ≠ .idle
        · rw [if_pos hbusy, if_pos hbusy]
          exact State.reply_answers h _ _
        · rw [if_neg hbusy, if_neg hbusy]
          by_cases hrange : (down ∧ first < last) ∨ (¬down ∧ last < first)
          · rw [if_pos hrange]
            obtain ⟨-, -, hhead, hkind, -⟩ := h
            exact (if_neg fun hok => (rangeConsistent_iff first last down).1 hok hrange).trans
              (State.lockAndReply_eq hhead hkind _ _)
          · rw [if_neg hrange]
            exact (if_pos ((rangeConsistent_iff first last down).2 hrange)).trans (State.reply_of_queue h (by exact rfl) _ _)
  case suspend =>
    have hserved : exec .sweepSuspend s = .next s.serveSweepSuspend := congrArg Host.Outcome.next (State.serve_of_offers h _ _)
    rw [hserved, State.serveSweepSuspend]
    refine ⟨fun hrunning hvisit => ?_, fun hrunning hnone => ?_, fun hnot => ?_⟩
    · rw [if_pos hrunning, if_neg hvisit]
      rfl
    · rw [if_pos hrunning, if_pos hnone]
      exact congrArg Host.Outcome.next (State.reply_of_queue h (by exact rfl) _ _)
    · rw [if_neg hnot, State.reply_answers h]
  case resume =>
    have hserved : exec .sweepResume s = .next s.serveSweepResume := congrArg Host.Outcome.next (State.serve_of_offers h _ _)
    rw [hserved, State.serveSweepResume]
    by_cases hsuspended : s.sweep.state = .suspended
    · rw [if_pos hsuspended, if_pos hsuspended]
      exact congrArg Host.Outcome.next (State.reply_of_queue h (by exact rfl) _ _)
    · rw [if_neg hsuspended, if_neg hsuspended, State.reply_answers h]
  case stop =>
    have hserved : exec .stop s = .next s.serveStop := congrArg Host.Outcome.next (State.serve_of_offers h _ _)
    rw [hserved]
    exact congrArg Host.Outcome.next (State.reply_of_queue h (by exact rfl) _ _)
  case read =>
    have hserved : exec .sweepRead s = .next (s.reply .done s.sweepContent) :=
      congrArg Host.Outcome.next (State.serve_of_offers h _ _)
    rw [hserved, State.reply_answers h]
    rfl

/-! ## Visits -/

/-- The state `t` of an ended visit, counted and moved on (R126): `s` is the state in which the visit's command began. -/
def State.movedOn (s t : State) : State :=
  let e := { t.sweep with visited := t.sweep.visited + 1, stage := .none }
  let counted := t.count .sweepVisit 1
  if s.sweep.cursor ≠ s.sweep.last then
    { counted with
      sweep :=
        { e with
          state := if s.mgmt.stage = .suspend then .suspended else e.state
          stage := if s.mgmt.stage = .suspend then .none else .read
          cursor := match s.sweep.direction with | .up => s.sweep.cursor + 1 | .down => s.sweep.cursor - 1 } }
  else
    State.count .sweepEnd 1
      { counted with
        sweep :=
          if s.sweep.autoDue = true then
            { e with
              state := .running, mode := .auto, first := 0, last := 4095, direction := .up, cursor := 0, visited := 0
              found := 0, autoDue := false, stage := .read
              countdown := if s.mgmt.params.sweepInterval = 0 then none else some s.mgmt.params.sweepInterval }
          else { e with state := .idle } }

/-- A visit's end with the answer to a waiting SWEEP SUSPEND (R127). -/
def State.visitEnded (s : State) (r : Request) (t : State) : State :=
  let moved := s.movedOn t
  if s.mgmt.stage = .suspend then moved.answered .sweepSuspend r .done (sweepOctets moved.sweep) else moved

/-- Where the engine goes from a visit. -/
theorem State.movedOn_eq {s t : State} {found : Nat} (hmgmt : t.mgmt = s.mgmt) (hsweep : t.sweep = { s.sweep with found := found }) :
    (let moved := (t.count .sweepVisit 1).onSweep (SweepEngine.afterVisit t.mgmt.params.sweepInterval (t.mgmt.stage == .suspend))
      if t.sweep.cursor = t.sweep.last then moved.count .sweepEnd 1 else moved) = s.movedOn t := by
  unfold State.movedOn State.onSweep SweepEngine.afterVisit SweepEngine.nextCursor
  rw [State.count_sweep, hsweep, hmgmt]
  dsimp only
  by_cases hlast : s.sweep.cursor = s.sweep.last
  · rw [if_pos hlast, if_pos hlast, if_neg (not_not_intro hlast)]
    rfl
  · rw [if_neg hlast, if_neg hlast, if_pos hlast]
    by_cases hsuspend : s.mgmt.stage = .suspend
    · rw [if_pos (beq_iff_eq.2 hsuspend), if_pos hsuspend, if_pos hsuspend] <;> rfl
    · rw [if_neg (fun h => hsuspend (beq_iff_eq.1 h)), if_neg hsuspend, if_neg hsuspend] <;> rfl

theorem State.endVisit_eq {s t : State} {r : Request} {found : Nat} (hmgmt : t.mgmt = s.mgmt)
    (hsweep : t.sweep = { s.sweep with found := found })
    (hwaits : s.mgmt.stage = .suspend → s.mgmt.queue.head? = some r ∧ r.kind = RequestKind.sweepSuspend.code) :
    t.endVisit = s.visitEnded r t := by
  have hmoved := State.movedOn_eq hmgmt hsweep
  dsimp only at hmoved
  unfold State.endVisit State.visitEnded
  dsimp only
  rw [hmoved, hmgmt]
  by_cases hsuspend : s.mgmt.stage = .suspend
  · obtain ⟨hhead, hkind⟩ := hwaits hsuspend
    have hqueue : (s.movedOn t).mgmt.queue = s.mgmt.queue := by
      rw [← hmgmt]
      unfold State.movedOn
      dsimp only
      split <;> rfl
    rw [if_pos (beq_iff_eq.2 hsuspend), if_pos hsuspend]
    exact State.reply_eq_answered (hqueue ▸ hhead) hkind _ _
  · rw [if_neg (fun h => hsuspend (beq_iff_eq.1 h)), if_neg hsuspend]


/-- A visit of a readable record (R123, R124). -/
theorem State.judgeVisit_eq {s u : State} {r : Request} (b : Bin) (hmgmt : u.mgmt = s.mgmt) (hsweep : u.sweep = s.sweep)
    (hheld : u.table.held = s.table.held)
    (hwaits : s.mgmt.stage = .suspend → s.mgmt.queue.head? = some r ∧ r.kind = RequestKind.sweepSuspend.code) :
    u.judgeVisit b =
      if s.isHeld s.sweep.cursor = true then s.visitEnded r (u.count .sweepSkip 1)
      else if b.fill.service = .active ∧ b.fill.stale = false
          ∧ b.record.silenceLimit.getD s.mgmt.params.silenceLimit < s.mgmt.partTime - b.fill.lastHeard then
        { u with sweep := { s.sweep with stage := .write b.record b.generation b.fill.lastHeard } }
      else s.visitEnded r u := by
  have hended : u.endVisit = s.visitEnded r u := State.endVisit_eq hmgmt (found := s.sweep.found) hsweep hwaits
  have hskipped : (u.count .sweepSkip 1).endVisit = s.visitEnded r (u.count .sweepSkip 1) :=
    State.endVisit_eq (by exact hmgmt) (found := s.sweep.found) (by exact hsweep) hwaits
  have hsegment : u.isHeld s.sweep.cursor = s.isHeld s.sweep.cursor := congrArg (Table.has (segmentOf s.sweep.cursor)) hheld
  have hnow : u.now = s.mgmt.partTime := congrArg ManagementUnit.partTime hmgmt
  unfold State.judgeVisit State.onSweep limitOf ageAt
  rw [hskipped, hended, hsweep, hsegment, hnow, hmgmt]
  by_cases hskip : s.isHeld s.sweep.cursor = true
  · rw [if_pos hskip, if_pos hskip]
  · rw [if_neg hskip, if_neg hskip]
    by_cases hactive : b.fill.service = .active
    · rw [if_neg (not_not_intro hactive)]
      by_cases hstale : b.fill.stale = true
      · rw [if_pos hstale, if_neg fun h => Bool.eq_false_iff.1 h.2.1 hstale]
      · rw [if_neg hstale]
        by_cases hsilent : b.record.silenceLimit.getD s.mgmt.params.silenceLimit < s.mgmt.partTime - b.fill.lastHeard
        · rw [if_pos hsilent, if_pos ⟨hactive, Bool.eq_false_iff.2 hstale, hsilent⟩]
        · rw [if_neg hsilent, if_neg fun h => hsilent h.2.2]
    · rw [if_pos hactive, if_neg fun h => hactive h.1]

/-- The stale write with the engine's fields as they stand (R125). -/
theorem State.markStale_eq {s : State} (u : State) (record : BinRecord) (b : Bin) (hsweep : u.sweep = s.sweep) :
    u.markStale record b =
      let stale := { b.fill with stale := true }
      let t :=
        ((u.setBin s.sweep.cursor { b with fill := stale }).postChange b.fill stale).notify record.selection s.sweep.cursor
          (some record.kind) false stale .stale
      State.count .staleMark 1 { t with sweep := { s.sweep with found := s.sweep.found + 1 } } := by
  unfold State.markStale State.onSweep
  dsimp only
  rw [State.notify_sweep, State.postChange_sweep, State.setBin_sweep, hsweep]

theorem execStaleWrite_of_grant {s : State} {record : BinRecord} {generation lastHeard : Nat} (wear : Wear)
    (hstage : s.sweep.stage = .write record generation lastHeard) (hgrant : s.portGrant = some .sweepEngine) :
    execStaleWrite wear s =
      let t := (s.granted .sweepEngine).access .write false s.sweep.cursor wear
      let b := t.bin s.sweep.cursor
      .next (if b.fill.lastHeard = lastHeard ∧ b.generation = generation ∧ t.isHeld s.sweep.cursor = false
          ∧ b.fill.service = .active then (t.markStale record b).endVisit else (t.count .staleAbandon 1).endVisit) := by
  unfold execStaleWrite
  rw [hstage]
  dsimp only
  rw [if_pos hgrant]
  split <;> rfl

/-- Settles O51: the visit over a readable and a damaged record, and the stale write the same. -/
theorem visitsFindSilentBins : Obligations.VisitsFindSilentBins := by
  intro r wear s _ hgrant hwaits n b ended
  have hdamagedVisit (c : Ctr) (t : State) (hleaves : s.leavesBut accessParts t) :
      (t.count c 1).endVisit = s.visitEnded r (t.count c 1) :=
    State.endVisit_eq (by exact hleaves .mgmt (by decide)) (found := s.sweep.found) (by exact hleaves .sweep (by decide)) hwaits
  constructor
  · intro hstage
    constructor
    · intro hreadable u
      have hfound : s.finding .read n wear ≠ .damaged := fun h =>
        absurd ((s.finding_damaged (by decide) _ wear).1 h) (Nat.not_le_of_lt (Nat.lt_succ_of_le hreadable))
      have hleaves := s.readThrough_leaves .sweepEngine n wear
      have hsweep : u.sweep = s.sweep := hleaves .sweep (by decide)
      have hexec := execVisit_of_grant wear hstage hgrant
      rw [if_neg hfound, s.access_readable .sweepEngine (by decide) _ _ hreadable] at hexec
      show execVisit wear s = _
      rw [hexec, State.judgeVisit_eq _ (s.readThrough_mgmt _ _ _) hsweep (hleaves .segments (by decide)).2 hwaits, hsweep,
        State.readThrough_fill, State.readThrough_record, State.readThrough_generation]
      rfl
    · intro hdamaged
      have hfound : s.finding .read n wear = .damaged := (s.finding_damaged (by decide) _ wear).2 hdamaged
      have hleaves := s.foundDamaged_leaves .sweepEngine false n wear
      have hexec := execVisit_of_grant wear hstage hgrant
      rw [if_pos hfound, s.access_damaged .sweepEngine (by decide) _ _ hfound,
        State.endVisit_eq (hleaves .mgmt (by decide)) (found := s.sweep.found) (hleaves .sweep (by decide)) hwaits] at hexec
      exact hexec
  · intro record generation lastHeard hstage w u stale damaged
    have hexec := execStaleWrite_of_grant wear hstage hgrant
    constructor
    · intro hfine
      rw [s.access_writable .sweepEngine _ _ hfine] at hexec
      dsimp only at hexec
      rw [State.writeThrough_bin_self] at hexec
      show execStaleWrite wear s = _
      rw [hexec]
      refine congrArg Host.Outcome.next ?_
      by_cases hmade : w.fill.lastHeard = lastHeard ∧ w.generation = generation ∧ s.isHeld n = false ∧ w.fill.service = .active
      · rw [if_pos hmade]
        refine (if_pos hmade).trans ?_
        have hmarked := u.markStale_eq record w (s := s) rfl
        rw [hmarked]
        exact State.endVisit_eq (by exact (State.notify_mgmt ..).trans (State.postChange_mgmt ..)) (found := s.sweep.found + 1) (by exact rfl) hwaits
      · rw [if_neg hmade]
        refine (if_neg hmade).trans ?_
        exact State.endVisit_eq (by exact rfl) (found := s.sweep.found) (by exact rfl) hwaits
    · intro hdamaged
      have hfound : s.finding .write n wear = .damaged := (s.finding_write_damaged _ _).2 hdamaged
      have hleaves := s.foundDamaged_leaves .sweepEngine false n wear
      have hactive : ((s.foundDamaged .sweepEngine false n wear).bin n).fill.service ≠ .active := by
        rw [← State.access_damaged s .sweepEngine (by decide) false n hfound]
        exact State.access_damaged_not_active (s.granted .sweepEngine) (by decide) false hfound
      rw [s.access_damaged .sweepEngine (by decide) _ _ hfound] at hexec
      dsimp only at hexec
      rw [if_neg fun h => hactive h.2.2.2, hdamagedVisit _ _ hleaves] at hexec
      exact hexec

end Sys2Proof.Machine

/-! RESTART (R152), the parameters (R150), the Condition Unit's requests (R154, R155, R157), and the Test Generator
(R158 to R160). -/

namespace Sys2Proof.Machine

/-! ## RESTART -/

theorem restart_carriedOut_of_due {s : State} (hdue : s.mgmt.stage = .restartDue) :
    exec .restartCarriedOut s = .next s.withdrawn.tableCleared.blocksRestarted := by
  show execRestartCarriedOut s = _
  rw [execRestartCarriedOut, hdue]

/-- Settles O56: the reply, the clear grant taken first, and the whole effect. -/
theorem restartClearsTheWorkingState : Obligations.RestartClearsTheWorkingState := by
  constructor
  · intro r s h
    have hserved : exec .restart s = .next s.serveRestart := congrArg Host.Outcome.next (State.serve_of_offers h _ _)
    rw [hserved, State.serveRestart, State.reply_answers h]
    rfl
  · intro s hcanonical hdue
    constructor
    · refine ⟨{ s.withdrawn.tableCleared with mgmt := { s.mgmt with stage := .restartCleared } }, ?_, rfl, ?_⟩
      · show execTableWideClear s = _
        rw [execTableWideClear, if_pos hdue]
        rfl
      · rw [restart_carriedOut_of_due hdue]
        rfl
    · refine ⟨_, restart_carriedOut_of_due hdue, rfl, rfl, rfl, rfl, fun n => ?bins, fun z => ?tallies, fun n => ?channels,
        rfl, rfl, rfl, rfl, rfl, ?others⟩
      case bins =>
        obtain ⟨hbins, -⟩ := hcanonical
        exact Table.get_mapEntries Bin.reset _ (Bin.cleared_reset s.now) n ((Table.wf_iff _ _).1 hbins).1
      case tallies =>
        obtain ⟨-, -, -, hzones, -⟩ := hcanonical
        exact Table.get_mapEntries Tally.zero Tally.restarted rfl z ((Table.wf_iff _ _).1 hzones).1
      case channels =>
        obtain ⟨-, -, -, -, hchannels, -⟩ := hcanonical
        exact Table.get_mapEntries Channel.reset Channel.restarted rfl n ((Table.wf_iff _ _).1 hchannels).1
      case others =>
        exact State.keepsAllBut_of_leavesBut (State.leavesBut_step (State.leavesBut_step (State.leavesBut_mono s.withdrawn_leaves
          (by decide)) (State.tableCleared_leaves _) (by decide)) (State.blocksRestarted_leaves _) (by decide))

/-! ## Parameters -/

theorem clampTo_eq {low high : Nat} (h : low ≤ high) (value : Nat) :
    clampTo low high value = if value < low then low else if high < value then high else value := by
  unfold clampTo
  split
  · omega
  · split <;> omega

/-- The clamp marks bit by bit. -/
theorem has_foldl_marks (marked : Nat → Bool) (l : List Nat) (v : Octet) {j : Nat} (hj : j < 8) :
    Bits.has j (l.foldl (fun v i => if marked i then Bits.put i v else v) v) = (Bits.has j v || (l.contains j && marked j)) := by
  induction l generalizing v with
  | nil => simp
  | cons i l ih =>
    rw [List.foldl_cons, ih, List.contains_cons]
    by_cases hmarked : marked i = true
    · rw [if_pos hmarked, Bits.has_put]
      by_cases hji : j = i
      · subst hji
        simp [hj, hmarked]
      · simp [hji, beq_eq_false_iff_ne.2 hji]
    · rw [if_neg hmarked]
      by_cases hji : j = i
      · subst hji
        simp [hmarked]
      · simp [beq_eq_false_iff_ne.2 hji]

theorem clampMarks_has (args : List Octet) {j : Nat} (hj : j < 8) :
    Bits.has j (clampMarks args) = (decide (j < 7) && clampMark args j) := by
  have hcontains : ∀ i < 8, [0, 1, 2, 3, 4, 5, 6].contains i = decide (i < 7) := by decide
  have hzero : Bits.has j (0 : Octet) = false := by simp [Bits.has]
  rw [clampMarks, has_foldl_marks _ _ _ hj, hcontains j hj, hzero, Bool.false_or]

/-- Settles O55: every parameter by its clamp, and the marks by their bits. -/
theorem parametersAreClampedAndAnswered : Obligations.ParametersAreClampedAndAnswered := by
  intro r s clamp given clamped used p params
  have hclamp (i : Nat) (hi : i < 7) (value : Nat) : clampParam i value = (clamped.getD i id) value := by
    match i, hi with
    | 2, _ => exact congrArg (fun clamped => if value = 0 then 0 else clamped) (clampTo_eq (by decide) value)
    | 0, _ | 1, _ | 3, _ | 4, _ | 5, _ | 6, _ => exact clampTo_eq (by decide) value
  have hused (i : Nat) (hi : i < 7) (old : Nat) : newParam i r.args old = used i old := by
    show (match given i with | none => old | some value => clampParam i value)
      = match given i with | none => old | some value => (clamped.getD i id) value
    cases given i with
    | none => rfl
    | some value => exact hclamp i hi value
  have hparams : p.set r.args = params := by
    unfold Params.set
    rw [hused 0 (by decide), hused 1 (by decide), hused 2 (by decide), hused 3 (by decide), hused 4 (by decide),
      hused 5 (by decide), hused 6 (by decide)]
  constructor
  · intro h
    have hserved : exec .paramSet s = .next (s.serveParamSet r.args) := congrArg Host.Outcome.next (State.serve_of_offers h _ _)
    refine ⟨clampMarks r.args, ?_, fun i hi => ?_, ?_⟩
    · rw [hserved]
      refine congrArg Host.Outcome.next ?_
      have hset : (s.onMgmt fun m => { m with params := m.params.set r.args })
          = { s with mgmt := { s.mgmt with params := params } } := by
        rw [← hparams]
        rfl
      unfold State.serveParamSet
      dsimp only
      rw [hset]
      cases hinterval : given 2 with
      | none =>
        rw [show argParam 2 r.args = none from hinterval, if_pos rfl]
        exact State.reply_of_queue h (by exact rfl) _ _
      | some value =>
        rw [show argParam 2 r.args = some value from hinterval, if_neg (Option.some_ne_none value)]
        exact State.reply_of_queue h (by exact rfl) _ _
    · refine (clampMarks_has r.args (Nat.lt_succ_of_lt hi)).trans ?_
      rw [decide_eq_true hi, Bool.true_and]
      show (match given i with | none => false | some value => clampParam i value != value) = _
      cases given i with
      | none => rfl
      | some value => exact congrArg (· != value) (hclamp i hi value)
    · exact clampMarks_has r.args (by decide)
  · intro h
    have hserved : exec .paramRead s = .next (s.reply .done ([0x00] ++ paramOctets s.mgmt.params)) :=
      congrArg Host.Outcome.next (State.serve_of_offers h _ _)
    rw [hserved, State.reply_answers h]
    rfl

/-! ## Condition flags and statistics -/

theorem octet_eq_iff_toNat {o : Octet} (n : Nat) (hn : n < 256) : o = BitVec.ofNat 8 n ↔ o.toNat = n := by
  rw [← BitVec.toNat_inj, BitVec.toNat_ofNat, Nat.mod_eq_of_lt hn]

/-- The address choice octet: 00H, 01H, 02H, and no other. -/
theorem alertAddressOf_eq (choice : Octet) (address : Nat) (present : Option Nat) :
    alertAddressOf choice address present =
      if 2 < choice.toNat then none
      else some (if choice.toNat = 0 then present else if choice.toNat = 1 then some address else none) := by
  have hzero : choice = 0 ↔ choice.toNat = 0 := octet_eq_iff_toNat 0 (by decide)
  have hone : choice = 1 ↔ choice.toNat = 1 := octet_eq_iff_toNat 1 (by decide)
  have htwo : choice = 2 ↔ choice.toNat = 2 := octet_eq_iff_toNat 2 (by decide)
  unfold alertAddressOf
  by_cases h0 : choice.toNat = 0
  · rw [if_pos (hzero.2 h0), if_neg (by omega), if_pos h0]
  · rw [if_neg (h0 ∘ hzero.1)]
    by_cases h1 : choice.toNat = 1
    · rw [if_pos (hone.2 h1), if_neg (by omega), if_neg h0, if_pos h1]
    · rw [if_neg (h1 ∘ hone.1)]
      by_cases h2 : choice.toNat = 2
      · rw [if_pos (htwo.2 h2), if_neg (by omega), if_neg h0, if_neg h1]
      · rw [if_neg (h2 ∘ htwo.1), if_pos (by omega)]

/-- The zero option octet: 00H and 01H, and no other. -/
theorem zeroOptionOf_eq (option : Octet) :
    zeroOptionOf option = if 1 < option.toNat then none else some (decide (option.toNat = 1)) := by
  have hzero : option = 0 ↔ option.toNat = 0 := octet_eq_iff_toNat 0 (by decide)
  have hone : option = 1 ↔ option.toNat = 1 := octet_eq_iff_toNat 1 (by decide)
  unfold zeroOptionOf
  by_cases h0 : option.toNat = 0
  · rw [if_pos (hzero.2 h0), if_neg (by omega), h0]
    rfl
  · rw [if_neg (h0 ∘ hzero.1)]
    by_cases h1 : option.toNat = 1
    · rw [if_pos (hone.2 h1), if_neg (by omega), h1]
      rfl
    · rw [if_neg (h1 ∘ hone.1), if_pos (by omega)]

/-- A gain counts where an address is present and no notice waits (R155, R156). -/
theorem ConditionUnit.gain_of_address (u : ConditionUnit) :
    u.gain =
      if u.address ≠ none ∧ u.noticeWaiting = false then
        if u.holdoff = none then { u with noticeWaiting := true } else { u with gainInHoldoff := true }
      else u := by
  obtain ⟨raised, enabled, address, noticeWaiting, holdoff, gainInHoldoff, lastSent, counters, snapshotTime⟩ := u
  cases address <;> cases noticeWaiting <;> cases holdoff <;> simp [ConditionUnit.gain]

/-- What ALERT SET makes of the Condition Unit, as the statement says it (R154, R155). -/
theorem ConditionUnit.alertSet_eq (u : ConditionUnit) (enabled : BitVec 12) (address : Option Nat) (raised : BitVec 12) :
    let chosen := { u with enabled := enabled, address := address, noticeWaiting := u.noticeWaiting && address.isSome }
    u.alertSet enabled address raised =
      if raised &&& enabled &&& ~~~u.enabled ≠ 0 ∧ address ≠ none ∧ chosen.noticeWaiting = false then
        if u.holdoff = none then { chosen with noticeWaiting := true } else { chosen with gainInHoldoff := true }
      else chosen := by
  intro chosen
  unfold ConditionUnit.alertSet
  by_cases henters : raised &&& enabled &&& ~~~u.enabled = 0
  · rw [if_pos henters, if_neg fun h => h.1 henters]
  · rw [if_neg henters]
    refine chosen.gain_of_address.trans (ite_of_iff ?_ _ _)
    exact ⟨fun h => ⟨henters, h⟩, fun h => h.2⟩

theorem State.raisedFlags_has (s : State) (f : Flag) :
    Bits.has f.index s.raisedFlags = if f = .locked then s.mgmt.lock.isSome else Bits.has f.index s.report.conditions.raised := by
  unfold State.raisedFlags
  cases s.mgmt.lock <;> cases f <;> simp [Bits.has_put, Bits.has_drop, Flag.index]

/-- Settles O59: each request by its own rule. -/
theorem conditionRequestsAreAnswered : Obligations.ConditionRequestsAreAnswered := by
  intro r s u withConditions addressOf
  refine ⟨?set, fun h => ?read, ?clear, ?snapshot, ?stats⟩
  case set =>
    intro h enabled choice address chosen enters
    have hserved : exec .alertSet s = .next (s.serveAlertSet r.args) := congrArg Host.Outcome.next (State.serve_of_offers h _ _)
    rw [hserved, State.serveAlertSet, alertAddressOf_eq]
    by_cases hbad : 2 < choice
    · rw [if_pos hbad, if_pos hbad]
      exact congrArg Host.Outcome.next (State.reply_answers h _ _)
    · rw [if_neg hbad, if_neg hbad]
      refine congrArg Host.Outcome.next ((State.reply_of_queue h (by exact rfl) _ _).trans ?_)
      exact congrArg (fun v => State.answered .alertSet r .done (beOctets 2 enabled.toNat ++ addressOf address) (withConditions v))
        (u.alertSet_eq enabled address s.raisedFlags)
  case read =>
    have hserved : exec .alertRead s = .next (s.reply .done s.alertContent) := congrArg Host.Outcome.next (State.serve_of_offers h _ _)
    rw [hserved, State.reply_answers h]
    rfl
  case clear =>
    intro h raised
    have hserved : exec .alertClear s = .next (s.serveAlertClear r.args) := congrArg Host.Outcome.next (State.serve_of_offers h _ _)
    refine ⟨(withConditions { u with raised := raised }).raisedFlags, ?_, fun f => ?_⟩
    · rw [hserved]
      exact congrArg Host.Outcome.next (State.reply_of_queue h (by exact rfl) _ _)
    · rw [State.raisedFlags_has]
      by_cases hlocked : f = .locked
      · rw [if_pos hlocked, if_pos hlocked]
      · rw [if_neg hlocked, if_neg hlocked]
        have hindex : f.index < 12 := by cases f <;> decide
        show (u.raised &&& ~~~BitVec.ofNat 12 (fieldAt 0 2 r.args)).getLsbD f.index = _
        rw [BitVec.getLsbD_and, BitVec.getLsbD_not, decide_eq_true hindex, Bool.true_and]
        rfl
  case snapshot =>
    intro h option
    have hserved : exec .snapshot s = .next (s.serveSnapshot r.args) := congrArg Host.Outcome.next (State.serve_of_offers h _ _)
    rw [hserved, State.serveSnapshot, zeroOptionOf_eq]
    constructor
    · intro hbad
      rw [if_pos hbad]
      exact congrArg Host.Outcome.next (State.reply_answers h _ _)
    · intro hle
      rw [if_neg (Nat.not_lt_of_le hle)]
      refine ⟨_, congrArg Host.Outcome.next (State.reply_of_queue h (by exact rfl) _ _), rfl,
        State.keepsAllBut_of_leavesBut (State.leavesBut_mono (s.onConditions_leaves _) (by decide)), fun hcanonical c => ?_⟩
      obtain ⟨-, -, -, -, -, hcounters, -⟩ := hcanonical
      refine (Table.get_mapEntries Counter.zero _ (by cases decide (option = 1) <;> rfl) c.index ((Table.wf_iff _ _).1 hcounters).1).trans ?_
      rw [Counter.snapped]
      simp only [decide_eq_true_eq]
      rfl
  case stats =>
    intro h first count
    have hserved : exec .statsRead s = .next (s.serveStatsRead r.args) := congrArg Host.Outcome.next (State.serve_of_offers h _ _)
    rw [hserved, State.serveStatsRead, fieldAt_one, fieldAt_one, State.reply_answers h, State.reply_answers h]
    by_cases hrange : 1 ≤ count ∧ count ≤ 32 ∧ first + count ≤ 49
    · rw [if_pos hrange]
      exact congrArg Host.Outcome.next (if_neg (by unfold counterCount; omega))
    · rw [if_neg hrange]
      exact congrArg Host.Outcome.next (if_pos (by unfold counterCount; omega))

/-! ## The Test Generator -/

/-- The generator's mode octet: 00H and 01H, and no other. -/
theorem testModeOf_eq (o : Octet) : testModeOf o = if 1 < o.toNat then none else some (if o = 1 then .replace else .mix) := by
  by_cases hbad : 1 < o.toNat
  · rw [if_pos hbad]
    have hzero : o ≠ 0 := fun he => by rw [he] at hbad; exact absurd hbad (by decide)
    exact (if_neg hzero).trans (if_neg (octet_ne_one_of_lt hbad))
  · rw [if_neg hbad]
    by_cases hone : o = 1
    · rw [hone]
      rfl
    · rw [octet_eq_zero hbad hone]
      rfl

theorem TestArgs.inRange_iff (a : TestArgs) :
    a.inRange = true ↔ a.first ≤ a.last ∧ a.last ≤ 4095 ∧ 100 ≤ a.startDistance ∧ a.startDistance ≤ 4000 ∧ 1 ≤ a.step
      ∧ a.step ≤ 500 ∧ 5 ≤ a.interval ∧ a.interval ≤ 1000 := by
  simp only [TestArgs.inRange, Bool.and_eq_true, decide_eq_true_eq]
  have hlast : Config.lastBin = 4095 := rfl
  omega

/-- Settles O60: the four commands by their own rules. -/
theorem testGeneratorRuns : Obligations.TestGeneratorRuns := by
  constructor
  · intro r s g
    refine ⟨?start, fun h => ?stop, ?read⟩
    case start =>
      intro h mode a
      have hserved : exec .testStart s = .next (s.serveTestStart r.args) := congrArg Host.Outcome.next (State.serve_of_offers h _ _)
      rw [hserved, State.serveTestStart, testModeOf_eq]
      refine congrArg Host.Outcome.next ?_
      by_cases hoctet : 1 < (octetAt 12 r.args).toNat
      · rw [if_pos hoctet]
        exact (State.reply_answers h _ _).trans (if_pos fun hok => Nat.not_lt_of_le hok.1 hoctet).symm
      · rw [if_neg hoctet]
        by_cases hrange : a.inRange = true
        · have hok := And.intro (Nat.le_of_not_lt hoctet) (a.inRange_iff.1 hrange)
          refine (if_neg (show ¬ (!a.inRange) = true by simpa using hrange)).trans (.trans ?_ (if_neg (not_not_intro hok)).symm)
          by_cases hrunning : g.running = true
          · rw [if_pos hrunning, if_pos hrunning]
            exact State.reply_answers h _ _
          · rw [if_neg hrunning, if_neg hrunning]
            exact State.reply_of_queue h (by exact rfl) _ _
        · refine (if_pos (show (!a.inRange) = true by simpa using hrange)).trans (.trans (State.reply_answers h _ _) (if_pos ?_).symm)
          exact fun hok => hrange (a.inRange_iff.2 hok.2)
    case stop =>
      have hserved : exec .testStop s = .next s.serveTestStop := congrArg Host.Outcome.next (State.serve_of_offers h _ _)
      rw [hserved, State.serveTestStop]
      by_cases hrunning : g.running = true
      · rw [if_pos hrunning, if_pos hrunning]
        exact congrArg Host.Outcome.next (State.reply_of_queue h (by exact rfl) _ _)
      · rw [if_neg hrunning, if_neg hrunning, State.reply_answers h]
    case read =>
      intro h t
      have hserved : exec .testRead s = .next s.serveTestRead := congrArg Host.Outcome.next (State.serve_of_offers h _ _)
      have hshort : (if 0 < s.test.shortfall then s.raise .testShort else s) = t :=
        ite_of_iff Nat.sub_pos_iff_lt _ _
      have htest : t.test = g := by
        show State.test (if g.applied < g.generated then s.raise .testShort else s) = g
        split <;> rfl
      have hmgmt : t.mgmt = s.mgmt := by
        show State.mgmt (if g.applied < g.generated then s.raise .testShort else s) = s.mgmt
        split <;> rfl
      have hcontent : g.content =
          [boolOctet g.running] ++ beOctets 2 g.args.first ++ beOctets 2 g.args.last ++ beOctets 2 g.args.tag
            ++ beOctets 2 g.args.startDistance ++ beOctets 2 g.args.step ++ beOctets 2 g.args.interval
            ++ [g.args.mode.code] ++ beOctets 2 g.bin ++ beOctets 2 g.distance ++ beOctets 1 g.sequence
            ++ beOctets 4 g.generated ++ beOctets 4 g.applied ++ beOctets 4 (g.generated - g.applied) := by
        simp only [TestGenerator.content, testArgOctets, TestGenerator.shortfall, List.append_assoc]
      rw [hserved, State.serveTestRead, hshort, State.onTest, htest,
        State.reply_of_queue h (by exact congrArg ManagementUnit.queue hmgmt), hcontent]
      rfl
  · intro s g echo counted moved
    constructor
    · intro hrunning
      show execTestIntervalExpiry s = _
      rw [execTestIntervalExpiry, if_pos hrunning]
      have hmoved : g.afterFrame = moved := by
        unfold TestGenerator.afterFrame TestGenerator.nextDistance
        rw [Nat.add_comm 100]
      exact congrArg (fun g' => Host.Outcome.next (State.offerSensor g.frame { s with test := g' })) hmoved
    · intro hstopped
      exact if_neg (Bool.eq_false_iff.1 hstopped)

end Sys2Proof.Machine

/-! The channel requests (section 7.6) and SYNC (R114). -/

namespace Sys2Proof.Machine

/-! ## Requests that name a channel -/

/-- The channel number is judged first. -/
theorem State.onChannelNamed_eq (s : State) (args : List Octet) (rule : Nat → State → State) :
    s.onChannelNamed args rule =
      if 7 < (octetAt 0 args).toNat then s.reply .badValue [] else rule (octetAt 0 args).toNat s := by
  rw [← fieldAt_one]
  rfl

/-- The mode octet: 00H and 01H, and no other. -/
theorem channelModeOf_eq (o : Octet) :
    channelModeOf o = if 1 < o.toNat then none else some (if o = 1 then .paced else .prompt) := by
  by_cases hbad : 1 < o.toNat
  · rw [if_pos hbad]
    have hzero : o ≠ 0 := fun he => by rw [he] at hbad; exact absurd hbad (by decide)
    exact (if_neg hzero).trans (if_neg (octet_ne_one_of_lt hbad))
  · rw [if_neg hbad]
    by_cases hone : o = 1
    · rw [hone]
      rfl
    · rw [octet_eq_zero hbad hone]
      rfl

theorem length_queuedZones (c : Channel) :
    c.queuedZones.length
      = (c.queue.filter fun e => match e.item with | .summary _ => true | .notice _ => false).length := by
  rw [Channel.queuedZones]
  induction c.queue with
  | nil => rfl
  | cons e rest ih =>
    obtain ⟨item, due⟩ := e
    cases item with
    | summary zone => exact congrArg (· + 1) ih
    | notice x => exact ih

/-- Settles O57: each request by its own rule. -/
theorem channelRequestsAreAnswered : Obligations.ChannelRequestsAreAnswered := by
  intro r s n c withChannel
  refine ⟨?set, fun h => ?close, ?credit, ?read⟩
  case set =>
    intro h mode
    have hserved : exec .channelSet s = .next (s.onChannelNamed r.args (State.serveChannelSet r.args)) :=
      congrArg Host.Outcome.next (State.serve_of_offers h _ _)
    rw [hserved, State.onChannelNamed_eq]
    refine congrArg Host.Outcome.next ?_
    by_cases hnumber : 7 < n
    · rw [if_pos hnumber, if_pos (.inl hnumber)]
      exact State.reply_answers h _ _
    · rw [if_neg hnumber, State.serveChannelSet, channelModeOf_eq]
      by_cases hmode : 1 < (octetAt 11 r.args).toNat
      · rw [if_pos hmode, if_pos (.inr hmode)]
        exact State.reply_answers h _ _
      · rw [if_neg hmode, if_neg (not_or.2 ⟨hnumber, hmode⟩)]
        exact State.reply_of_queue h (by exact rfl) _ _
  case close =>
    have hserved : exec .channelClose s = .next (s.onChannelNamed r.args fun number u =>
        (u.setChannel number (u.report.channel number).shut).reply .done []) :=
      congrArg Host.Outcome.next (State.serve_of_offers h _ _)
    rw [hserved, State.onChannelNamed_eq]
    by_cases hnumber : 7 < n
    · rw [if_pos hnumber, if_pos hnumber, State.reply_answers h]
    · rw [if_neg hnumber, if_neg hnumber]
      exact congrArg Host.Outcome.next (State.reply_of_queue h (by exact rfl) _ _)
  case credit =>
    intro h amount
    have hserved : exec .credit s = .next (s.onChannelNamed r.args (State.serveCredit r.args)) :=
      congrArg Host.Outcome.next (State.serve_of_offers h _ _)
    rw [hserved, State.onChannelNamed_eq]
    refine congrArg Host.Outcome.next ?_
    by_cases hnumber : 7 < n
    · rw [if_pos hnumber, if_pos (.inl hnumber)]
      exact State.reply_answers h _ _
    · rw [if_neg hnumber, State.serveCredit, fieldAt_one]
      by_cases hamount : amount = 0
      · exact (if_pos hamount).trans ((State.reply_answers h _ _).trans (if_pos (.inr hamount)).symm)
      · rw [if_neg (not_or.2 ⟨hnumber, hamount⟩)]
        exact (if_neg hamount).trans (State.reply_of_queue h (by exact rfl) _ _)
  case read =>
    intro h pending request
    have hserved : exec .channelRead s = .next (s.onChannelNamed r.args fun number u =>
        u.reply .done ((u.report.channel number).readContent u.mgmt.params.pacePeriod)) :=
      congrArg Host.Outcome.next (State.serve_of_offers h _ _)
    rw [hserved, State.onChannelNamed_eq]
    by_cases hnumber : 7 < n
    · rw [if_pos hnumber, if_pos hnumber, State.reply_answers h]
    · rw [if_neg hnumber, if_neg hnumber, State.reply_answers h]
      have hflags : c.creditOut.isSome.toNat + 2 * c.requests.toNat = pending + request := by
        show _ = (if c.creditOut ≠ none then 1 else 0) + (if c.requests = true then 2 else 0)
        cases c.creditOut <;> cases c.requests <;> rfl
      have heligible : (match c.mode with | .prompt => 0 | .paced => c.eligible) = if c.mode = .paced then c.eligible else 0 := by
        cases c.mode <;> rfl
      rw [length_queuedZones, ← hflags, ← heligible]
      rfl

/-! ## SYNC -/

/-- The zones that are neither queued nor owed (R114). -/
def Channel.freshZones (zones : List Nat) (c : Channel) : List Nat :=
  zones.filter fun z => !c.hasSummary z && !Bits.has z c.owed

/-- The zones that join the queue while it has room. -/
def Channel.joinedZones (zones : List Nat) (c : Channel) : List Nat := (c.freshZones zones).take (64 - c.queue.length)

/-- The zones that are owed after that. -/
def Channel.owedZones (zones : List Nat) (c : Channel) : List Nat := (c.freshZones zones).drop (64 - c.queue.length)

/-- A zone that joins exhausts the channel (R109). -/
abbrev Channel.exhaustible (c : Channel) : Prop := c.state = .opened ∧ c.credit = 0 ∧ c.mode = .prompt

/-- The channel starves by the offer of the zones. -/
abbrev Channel.starvesBy (zones : List Nat) (c : Channel) : Prop := c.exhaustible ∧ c.joinedZones zones ≠ []

/-- The CREDIT-OUT notice of the exhaustion that falls at the first zone queued (R110). -/
def Channel.firstCreditOut (now number : Nat) (c : Channel) : CreditOut where
  destination := c.destination
  channel := number
  partTime := now
  queueLength := c.queue.length + 1
  lost := c.lost

/-- The channel after SYNC has offered it the zones. -/
def Channel.synced (now number : Nat) (zones : List Nat) (c : Channel) : Channel :=
  { c with
    queue := c.queue ++ (c.joinedZones zones).map fun zone => ⟨.summary zone, false⟩
    owed := (c.owedZones zones).foldl (fun v z => Bits.put z v) c.owed
    state := if c.starvesBy zones then .starved else c.state
    creditOut := if c.starvesBy zones then some (c.firstCreditOut now number) else c.creditOut }

section Sync

variable {now n zone : Nat} {rest : List Nat} {c : Channel}

theorem Channel.freshZones_congr {d : Channel} {zones : List Nat}
    (h : ∀ z ∈ zones, d.hasSummary z = c.hasSummary z ∧ Bits.has z d.owed = Bits.has z c.owed) :
    d.freshZones zones = c.freshZones zones :=
  List.filter_congr fun z hz => by rw [(h z hz).1, (h z hz).2]

theorem Channel.freshZones_cons_known (h : c.hasSummary zone = true ∨ Bits.has zone c.owed = true) :
    c.freshZones (zone :: rest) = c.freshZones rest :=
  List.filter_cons_of_neg (by rcases h with h | h <;> simp [h])

theorem Channel.freshZones_cons_new (hsummary : c.hasSummary zone = false) (howed : Bits.has zone c.owed = false) :
    c.freshZones (zone :: rest) = zone :: c.freshZones rest :=
  List.filter_cons_of_pos (by simp [hsummary, howed])

/-- A zone that joins a channel that is not exhausted makes it so when it is OPEN, PROMPT and without credit. -/
theorem Channel.exhausted_join (h : c.exhausted = false) (item : Item) : (c.join item).exhausted = true ↔ c.exhaustible := by
  have hnot := mt c.exhausted_iff.2 (Bool.eq_false_iff.1 h)
  rw [Channel.exhausted_iff]
  unfold Channel.eligible at *
  cases hmode : c.mode with
  | prompt => simp [Channel.join, Channel.exhaustible, hmode]
  | paced =>
    rw [hmode] at hnot
    constructor
    · rintro ⟨hstate, heligible, hcredit⟩
      refine absurd ⟨hstate, ?_, hcredit⟩ hnot
      simpa [Channel.join, hmode] using heligible
    · rintro ⟨-, -, hprompt⟩
      exact absurd (hmode.symm.trans hprompt) (by decide)

/-- The channel after a zone has joined it and its exhaustion has been settled. -/
theorem Channel.settled_join (h : c.exhausted = false) (now n : Nat) (item : Item) :
    (c.join item).settled now n =
      { c with
        queue := c.queue ++ [⟨item, false⟩]
        state := if c.exhaustible then .starved else c.state
        creditOut := if c.exhaustible then some (c.firstCreditOut now n) else c.creditOut } := by
  unfold Channel.settled
  by_cases hex : c.exhaustible
  · rw [if_pos ((c.exhausted_join h item).2 hex), if_pos hex, if_pos hex]
    simp [Channel.join, Channel.frozenCreditOut, Channel.firstCreditOut]
  · rw [if_neg (mt (c.exhausted_join h item).1 hex), if_neg hex, if_neg hex]
    rfl

/-- SYNC's first zone is queued or owed already. -/
theorem Channel.synced_cons_known (h : c.hasSummary zone = true ∨ Bits.has zone c.owed = true) :
    c.synced now n (zone :: rest) = c.synced now n rest ∧ c.joinedZones (zone :: rest) = c.joinedZones rest
      ∧ c.owedZones (zone :: rest) = c.owedZones rest := by
  unfold Channel.synced Channel.starvesBy Channel.joinedZones Channel.owedZones
  rw [Channel.freshZones_cons_known h]
  exact ⟨rfl, rfl, rfl⟩

/-- A zone that joins leaves the other zones as fresh as they were. -/
theorem Channel.freshZones_settled_join (hex : c.exhausted = false) (hnew : zone ∉ rest) :
    ((c.join (.summary zone)).settled now n).freshZones rest = c.freshZones rest := by
  rw [Channel.settled_join hex]
  refine Channel.freshZones_congr fun z hz => ⟨?_, rfl⟩
  have hne : zone ≠ z := fun e => hnew (e ▸ hz)
  simp [Channel.hasSummary, hne]

theorem Channel.settled_join_length (hex : c.exhausted = false) (item : Item) :
    ((c.join item).settled now n).queue.length = c.queue.length + 1 := by
  rw [Channel.settled_join hex]
  exact List.length_append

/-- After the exhaustion no further zone starves the channel. -/
theorem Channel.not_exhaustible_settled_join (hex : c.exhausted = false) (item : Item) :
    ¬ ((c.join item).settled now n).exhaustible := by
  rw [Channel.settled_join hex]
  by_cases h : c.exhaustible
  · rw [if_pos h]
    exact fun hopened => nomatch hopened.1
  · rw [if_neg h]
    exact h

/-- SYNC's first zone joins the queue. -/
theorem Channel.zones_cons_joined (hex : c.exhausted = false) (hsummary : c.hasSummary zone = false)
    (howed : Bits.has zone c.owed = false) (hroom : c.queue.length < 64) (hnew : zone ∉ rest) :
    c.joinedZones (zone :: rest) = zone :: ((c.join (.summary zone)).settled now n).joinedZones rest
      ∧ c.owedZones (zone :: rest) = ((c.join (.summary zone)).settled now n).owedZones rest := by
  obtain ⟨room, hroom⟩ : ∃ room, 64 - c.queue.length = room + 1 := ⟨63 - c.queue.length, by omega⟩
  have hless : 64 - (c.queue.length + 1) = room := by omega
  unfold Channel.joinedZones Channel.owedZones
  rw [Channel.freshZones_cons_new hsummary howed, Channel.freshZones_settled_join hex hnew, Channel.settled_join_length hex, hroom,
    hless]
  exact ⟨rfl, rfl⟩

theorem Channel.not_starvesBy_settled_join (hex : c.exhausted = false) (item : Item) (zones : List Nat) :
    ¬ ((c.join item).settled now n).starvesBy zones := fun h => c.not_exhaustible_settled_join hex item h.1

theorem Channel.starvesBy_cons_joined (hex : c.exhausted = false) (hsummary : c.hasSummary zone = false)
    (howed : Bits.has zone c.owed = false) (hroom : c.queue.length < 64) (hnew : zone ∉ rest) :
    c.starvesBy (zone :: rest) ↔ c.exhaustible :=
  ⟨fun h => h.1, fun h => ⟨h, by
    rw [(Channel.zones_cons_joined (now := 0) (n := 0) hex hsummary howed hroom hnew).1]
    exact List.cons_ne_nil _ _⟩⟩

theorem Channel.synced_cons_joined (hex : c.exhausted = false) (hsummary : c.hasSummary zone = false)
    (howed : Bits.has zone c.owed = false) (hroom : c.queue.length < 64) (hnew : zone ∉ rest) :
    ((c.join (.summary zone)).settled now n).synced now n rest = c.synced now n (zone :: rest) := by
  obtain ⟨hjoined, howes⟩ := Channel.zones_cons_joined (now := now) (n := n) hex hsummary howed hroom hnew
  have hstarves := Channel.starvesBy_cons_joined hex hsummary howed hroom hnew
  have hquiet := Channel.not_starvesBy_settled_join (now := now) (n := n) hex (.summary zone) rest
  unfold Channel.synced
  rw [if_neg hquiet, if_neg hquiet, ite_of_iff hstarves _ _, ite_of_iff hstarves _ _, hjoined, howes]
  generalize ((c.join (.summary zone)).settled now n).joinedZones rest = joined
  generalize ((c.join (.summary zone)).settled now n).owedZones rest = owes
  rw [Channel.settled_join hex]
  simp

/-- SYNC's first zone is owed for want of room. -/
theorem Channel.synced_cons_owed (hsummary : c.hasSummary zone = false) (howed : Bits.has zone c.owed = false)
    (hfull : 64 ≤ c.queue.length) (hnew : zone ∉ rest) :
    let d : Channel := { c with owed := Bits.put zone c.owed }
    d.synced now n rest = c.synced now n (zone :: rest) ∧ d.joinedZones rest = c.joinedZones (zone :: rest)
      ∧ c.owedZones (zone :: rest) = zone :: d.owedZones rest ∧ d.freshZones rest = c.freshZones rest := by
  intro d
  have hnone : 64 - c.queue.length = 0 := Nat.sub_eq_zero_of_le hfull
  have hfresh : d.freshZones rest = c.freshZones rest := by
    refine Channel.freshZones_congr fun z hz => ⟨rfl, ?_⟩
    have hne : z ≠ zone := fun e => hnew (e ▸ hz)
    show Bits.has z (Bits.put zone c.owed) = Bits.has z c.owed
    rw [Bits.has_put]
    simp [hne]
  have hjoined : d.joinedZones rest = c.joinedZones (zone :: rest) := by
    unfold Channel.joinedZones
    rw [show d.queue.length = c.queue.length from rfl, hnone]
    rfl
  have howes : c.owedZones (zone :: rest) = zone :: d.owedZones rest := by
    unfold Channel.owedZones
    rw [show d.queue.length = c.queue.length from rfl, hnone, Channel.freshZones_cons_new hsummary howed, hfresh]
    rfl
  refine ⟨?_, hjoined, howes, hfresh⟩
  unfold Channel.synced Channel.starvesBy
  rw [hjoined, howes]
  rfl

end Sync

/-- What SYNC's offers come to (R114). -/
structure Reporting.Synced (now n : Nat) (zones : List Nat) (r : Reporting) (out : Reporting × List ZoneOffer) : Prop where
  self : out.1.channel n = (r.channel n).synced now n zones
  others : ∀ m, m ≠ n → out.1.channel m = r.channel m
  conditions : out.1.conditions = if (r.channel n).starvesBy zones then r.conditions.raise .starved else r.conditions
  queued : out.2.count .queued = ((r.channel n).joinedZones zones).length
  known : out.2.count .coalesced + out.2.count .alreadyOwed + ((r.channel n).freshZones zones).length = zones.length
  owed : out.2.count .owed = ((r.channel n).owedZones zones).length

theorem Channel.settled_not_exhausted (now n : Nat) (c : Channel) : (c.settled now n).exhausted = false := by
  unfold Channel.settled
  split
  · simp [Channel.exhausted]
  · exact Bool.eq_false_iff.2 ‹_›

/-- A zone that a channel takes is judged by the cases of R102. -/
theorem Channel.judgeZone_cases (zone : Nat) (c : Channel) :
    ((c.hasSummary zone = true ∨ Bits.has zone c.owed = true) ∧ c.takeZone zone = c
        ∧ (c.judgeZone zone = .coalesced ∨ c.judgeZone zone = .alreadyOwed))
      ∨ (c.hasSummary zone = false ∧ Bits.has zone c.owed = false ∧ c.queue.length < 64
        ∧ c.takeZone zone = c.join (.summary zone) ∧ c.judgeZone zone = .queued)
      ∨ (c.hasSummary zone = false ∧ Bits.has zone c.owed = false ∧ 64 ≤ c.queue.length
        ∧ c.takeZone zone = { c with owed := Bits.put zone c.owed } ∧ c.judgeZone zone = .owed) := by
  rw [Channel.takeZone_eq_ite]
  unfold Channel.judgeZone
  by_cases hsummary : c.hasSummary zone = true
  · exact .inl ⟨.inl hsummary, if_pos (.inl hsummary), .inl (if_pos hsummary)⟩
  · rw [if_neg hsummary]
    by_cases howed : Bits.has zone c.owed = true
    · exact .inl ⟨.inr howed, if_pos (.inr howed), .inr (if_pos howed)⟩
    · rw [if_neg howed, if_neg (not_or.2 ⟨hsummary, howed⟩)]
      rw [Bool.not_eq_true] at hsummary howed
      by_cases hroom : c.queue.length < 64
      · exact .inr (.inl ⟨hsummary, howed, hroom, if_pos hroom, if_pos hroom⟩)
      · exact .inr (.inr ⟨hsummary, howed, Nat.le_of_not_lt hroom, if_neg hroom, if_neg hroom⟩)

theorem Channel.settled_of_not_exhausted {c : Channel} (h : c.exhausted = false) (now n : Nat) : c.settled now n = c :=
  if_neg (Bool.eq_false_iff.1 h)

theorem Reporting.synced_nil (now n : Nat) (r : Reporting) : r.Synced now n [] (r, []) := by
  have hjoined : (r.channel n).joinedZones [] = [] := List.take_nil
  have howes : (r.channel n).owedZones [] = [] := List.drop_nil
  have hquiet : ¬ (r.channel n).starvesBy [] := fun h => h.2 hjoined
  refine ⟨?_, fun _ _ => rfl, (if_neg hquiet).symm, by rw [hjoined]; rfl, rfl, by rw [howes]; rfl⟩
  unfold Channel.synced
  rw [if_neg hquiet, if_neg hquiet, hjoined, howes]
  simp

/-- One zone more, offered first: `r'` is what its offer leaves. -/
theorem Reporting.Synced.cons {now n zone : Nat} {rest : List Nat} {r r' : Reporting} {out : Reporting × List ZoneOffer}
    {offer : ZoneOffer} (hlater : r'.Synced now n rest out) (hothers : ∀ m, m ≠ n → r'.channel m = r.channel m)
    (hself : (r'.channel n).synced now n rest = (r.channel n).synced now n (zone :: rest))
    (hconditions : (if (r'.channel n).starvesBy rest then r'.conditions.raise .starved else r'.conditions)
      = if (r.channel n).starvesBy (zone :: rest) then r.conditions.raise .starved else r.conditions)
    (hqueued : ((r.channel n).joinedZones (zone :: rest)).length
      = ((r'.channel n).joinedZones rest).length + if offer = .queued then 1 else 0)
    (hfresh : ((r.channel n).freshZones (zone :: rest)).length
      = ((r'.channel n).freshZones rest).length + if offer = .queued ∨ offer = .owed then 1 else 0)
    (howed : ((r.channel n).owedZones (zone :: rest)).length
      = ((r'.channel n).owedZones rest).length + if offer = .owed then 1 else 0) :
    r.Synced now n (zone :: rest) (out.1, offer :: out.2) where
  self := hlater.self.trans hself
  others m hm := (hlater.others m hm).trans (hothers m hm)
  conditions := hlater.conditions.trans hconditions
  queued := by rw [List.count_cons, hlater.queued, hqueued]; cases offer <;> rfl
  known := by
    have hknown := hlater.known
    rw [List.count_cons, List.count_cons, hfresh, List.length_cons, ← hknown]
    cases offer <;> simp <;> omega
  owed := by rw [List.count_cons, hlater.owed, howed]; cases offer <;> rfl

theorem Reporting.synced_syncZones (now n : Nat) {zones : List Nat} (hnodup : zones.Nodup) (r : Reporting)
    (hex : (r.channel n).exhausted = false) : r.Synced now n zones (r.syncZones now n zones) := by
  induction zones generalizing r with
  | nil => exact r.synced_nil now n
  | cons zone rest ih =>
    obtain ⟨hnew, hrest⟩ := List.nodup_cons.1 hnodup
    show r.Synced now n (zone :: rest)
      ((((r.setChannel n ((r.channel n).takeZone zone)).settle now n).syncZones now n rest).1,
        (r.channel n).judgeZone zone
          :: (((r.setChannel n ((r.channel n).takeZone zone)).settle now n).syncZones now n rest).2)
    have hself : ((r.setChannel n ((r.channel n).takeZone zone)).settle now n).channel n
        = ((r.channel n).takeZone zone).settled now n := by simp
    have hothers (m : Nat) (hm : m ≠ n) :
        ((r.setChannel n ((r.channel n).takeZone zone)).settle now n).channel m = r.channel m := by
      rw [Reporting.settle_channel_other _ _ hm, Reporting.setChannel_channel, if_neg hm]
    have hconditions : ((r.setChannel n ((r.channel n).takeZone zone)).settle now n).conditions
        = if ((r.channel n).takeZone zone).exhausted then r.conditions.raise .starved else r.conditions := by
      rw [Reporting.settle_conditions, Reporting.setChannel_channel_self]
      rfl
    generalize (r.setChannel n ((r.channel n).takeZone zone)).settle now n = r' at hself hothers hconditions ⊢
    have hlater := ih hrest r' (hself ▸ Channel.settled_not_exhausted ..)
    rcases (r.channel n).judgeZone_cases zone with
      ⟨hkept, htaken, hjudged⟩ | ⟨hsummary, howes, hroom, htaken, hjudged⟩ | ⟨hsummary, howes, hfull, htaken, hjudged⟩
    · rw [htaken] at hself hconditions
      rw [Channel.settled_of_not_exhausted hex] at hself
      rw [if_neg (Bool.eq_false_iff.1 hex)] at hconditions
      obtain ⟨hsynced, hjoins, hleft⟩ := Channel.synced_cons_known (now := now) (n := n) (rest := rest) hkept
      have hoffer : (r.channel n).judgeZone zone ≠ .queued ∧ (r.channel n).judgeZone zone ≠ .owed := by
        rcases hjudged with h | h <;> rw [h] <;> decide
      refine hlater.cons hothers (by rw [hself, hsynced]) ?_ (by rw [hself, hjoins, if_neg hoffer.1, Nat.add_zero])
        (by rw [hself, Channel.freshZones_cons_known hkept, if_neg (not_or.2 hoffer), Nat.add_zero])
        (by rw [hself, hleft, if_neg hoffer.2, Nat.add_zero])
      unfold Channel.starvesBy
      rw [hself, hconditions, hjoins]
    · rw [htaken] at hself hconditions
      obtain ⟨hjoins, hleft⟩ := Channel.zones_cons_joined (now := now) (n := n) hex hsummary howes hroom hnew
      refine hlater.cons hothers (by rw [hself, Channel.synced_cons_joined hex hsummary howes hroom hnew]) ?_
        (by rw [hself, hjoins, hjudged]; rfl)
        (by rw [hself, Channel.freshZones_settled_join hex hnew, Channel.freshZones_cons_new hsummary howes, hjudged]; rfl)
        (by rw [hself, hleft, hjudged]; rfl)
      rw [hself, if_neg (Channel.not_starvesBy_settled_join hex _ _), hconditions]
      exact ite_of_iff ((Channel.exhausted_join hex _).trans
        (Channel.starvesBy_cons_joined hex hsummary howes hroom hnew).symm) _ _
    · rw [htaken] at hself hconditions
      have hquiet : Channel.exhausted { r.channel n with owed := Bits.put zone (r.channel n).owed } = false := hex
      rw [Channel.settled_of_not_exhausted hquiet] at hself
      rw [if_neg (Bool.eq_false_iff.1 hquiet)] at hconditions
      obtain ⟨hsynced, hjoins, hleft, hfresh⟩ := Channel.synced_cons_owed (now := now) (n := n) hsummary howes hfull hnew
      refine hlater.cons hothers (by rw [hself, hsynced]) ?_ (by rw [hself, hjoins, hjudged]; rfl)
        (by rw [hself, hfresh, Channel.freshZones_cons_new hsummary howes, hjudged]; rfl) (by rw [hself, hleft, hjudged]; rfl)
      unfold Channel.starvesBy
      rw [hself, hconditions, hjoins]

theorem Bits.has_foldl_putAll {w : Nat} (zones : List Nat) (v : BitVec w) {z : Nat} (hz : z < w) :
    Bits.has z (zones.foldl (fun v z => Bits.put z v) v) = (Bits.has z v || zones.contains z) := by
  induction zones generalizing v with
  | nil => simp
  | cons x rest ih =>
    rw [List.foldl_cons, ih, Bits.has_put, List.contains_cons, Bool.or_assoc]
    by_cases hsame : z = x
    · simp [hsame, hsame ▸ hz]
    · simp [hsame, beq_eq_false_iff_ne.2 hsame]

theorem State.syncZones_leaves (s : State) (now n : Nat) (zones : List Nat) :
    s.leavesBut [.channels, .conditions] { s with report := (s.report.syncZones now n zones).1 } := by
  obtain ⟨hzones, hboundary, hcounters⟩ := s.report.syncZones_frame now n zones
  intro p hp
  cases p with
  | channels | conditions => simp at hp
  | segments => exact ⟨rfl, rfl⟩
  | tallies => exact hzones
  | boundary => exact hboundary
  | counters => exact hcounters
  | _ => rfl

/-- Settles O58: the number, the state, and the offers of the whole set. -/
theorem syncOffersTheWholeSet : Obligations.SyncOffersTheWholeSet := by
  intro r s h n c fresh joined owed starves
  have hserved : exec .sync s = .next (s.onChannelNamed r.args State.serveSync) :=
    congrArg Host.Outcome.next (State.serve_of_offers h _ _)
  rw [State.onChannelNamed_eq] at hserved
  refine ⟨fun hnumber => ?_, fun hnumber hclosed => ?_, fun hnumber hopen hex => ?_⟩
  · rw [hserved, if_pos hnumber, State.reply_answers h]
  · rw [hserved, if_neg (Nat.not_lt_of_le hnumber), State.serveSync]
    exact congrArg Host.Outcome.next ((if_pos hclosed).trans (State.reply_answers h _ _))
  · have hsynced := Reporting.synced_syncZones s.mgmt.partTime n (Bits.nodup_members c.zones) s.report hex
    obtain ⟨hself, hothers, hconditions, hqueued, hknown, howes⟩ := hsynced
    have hstarves : c.starvesBy (Bits.members c.zones) ↔ starves := by
      exact ⟨fun ⟨⟨hstate, hcredit, hmode⟩, hjoins⟩ => ⟨hstate, hcredit, hmode, hjoins⟩,
        fun ⟨hstate, hcredit, hmode, hjoins⟩ => ⟨⟨hstate, hcredit, hmode⟩, hjoins⟩⟩
    refine ⟨owed.foldl (fun v z => Bits.put z v) c.owed,
      { s with report := (s.report.syncZones s.mgmt.partTime n (Bits.members c.zones)).1 }, ?_,
      fun z hz => Bits.has_foldl_putAll owed c.owed hz, ?_, hothers, ?_, ?_⟩
    · have hcounts : syncCounts (s.report.syncZones s.mgmt.partTime n (Bits.members c.zones)).2
          = beOctets 1 joined.length ++ beOctets 1 ((Bits.members c.zones).length - fresh.length) ++ beOctets 1 owed.length := by
        have hmany : _ - fresh.length = _ := Nat.sub_eq_of_eq_add hknown.symm
        rw [syncCounts, hqueued, howes, hmany]
        rfl
      rw [hserved, if_neg (Nat.not_lt_of_le hnumber), State.serveSync]
      refine congrArg Host.Outcome.next ((if_neg hopen).trans ((State.reply_of_queue h (by exact rfl) _ _).trans ?_))
      exact congrArg (fun content => State.answered .sync r .done content _) hcounts
    · refine hself.trans ?_
      unfold Channel.synced
      rw [ite_of_iff hstarves _ _, ite_of_iff hstarves _ _]
      rfl
    · exact hconditions.trans (ite_of_iff hstarves _ _)
    · exact State.keepsAllBut_of_leavesBut (s.syncZones_leaves _ _ _)

end Sys2Proof.Machine

/-! A contribution change: the tallies it moves, and the zones that trigger (R91, R93 to R95). -/

namespace Sys2Proof.Machine

/-! ## Rises -/

/-- A counter after a number of counts of one. -/
def Counter.risen (times : Nat) (k : Counter) : Counter := if times = 0 then k else k.rise times

theorem Counter.rise_rise (k : Counter) (m n : Nat) : (k.rise m).rise n = k.rise (m + n) := by
  have hlive : min (min (k.live + m) Config.counterMax + n) Config.counterMax = min (k.live + (m + n)) Config.counterMax := by
    omega
  have hchanged : (min (k.live + m) Config.counterMax ≠ k.live
      ∨ min (k.live + (m + n)) Config.counterMax ≠ min (k.live + m) Config.counterMax)
        ↔ min (k.live + (m + n)) Config.counterMax ≠ k.live := by
    omega
  unfold Counter.rise
  dsimp only
  rw [hlive, Bool.or_assoc]
  have hflags : ((min (k.live + m) Config.counterMax != k.live)
      || min (k.live + (m + n)) Config.counterMax != min (k.live + m) Config.counterMax)
        = (min (k.live + (m + n)) Config.counterMax != k.live) := by
    rw [Bool.eq_iff_iff, Bool.or_eq_true, bne_iff_ne, bne_iff_ne, bne_iff_ne]
    exact hchanged
  rw [hflags]

theorem Counter.risen_rise (k : Counter) (times : Nat) : (k.rise 1).risen times = k.risen (times + 1) := by
  unfold Counter.risen
  rw [if_neg (Nat.succ_ne_zero times)]
  by_cases h : times = 0
  · rw [if_pos h, h]
  · rw [if_neg h, Counter.rise_rise, Nat.add_comm]

/-! ## The trigger test -/

section Test

variable (now step : Nat) (before : Table Tally)

/-- The zone triggers on the way from the tallies before the change to those of the report (R93). -/
def Reporting.triggersAt (r : Reporting) (z : Nat) : Bool := Tally.triggers step (Table.get Tally.zero z before) (r.tally z)

theorem Reporting.testZone_tally (r : Reporting) (z y : Nat) :
    (r.testZone now step before z).tally y =
      if y = z ∧ r.triggersAt step before z = true then { r.tally y with reference := (r.tally y).litres } else r.tally y := by
  unfold Reporting.testZone
  by_cases htriggers : r.triggersAt step before z = true
  · refine (congrArg (Reporting.tally y) (if_pos htriggers)).trans ?_
    rw [Reporting.tally, Reporting.offerZone_zones]
    show ((r.setTally z _).tally y) = _
    rw [Reporting.setTally_tally]
    by_cases hy : y = z
    · rw [if_pos hy, if_pos ⟨hy, htriggers⟩, hy]
    · rw [if_neg hy, if_neg fun h => hy h.1]
  · exact (congrArg (Reporting.tally y) (if_neg htriggers)).trans (if_neg fun h => htriggers h.2).symm

theorem Reporting.testZone_counter (r : Reporting) (z : Nat) :
    (r.testZone now step before z).conditions.counter Ctr.zoneTrigger.index =
      if r.triggersAt step before z = true then (r.conditions.counter Ctr.zoneTrigger.index).rise 1
      else r.conditions.counter Ctr.zoneTrigger.index := by
  unfold Reporting.testZone
  by_cases htriggers : r.triggersAt step before z = true
  · refine (congrArg (fun r' : Reporting => r'.conditions.counter Ctr.zoneTrigger.index) (if_pos htriggers)).trans ?_
    rw [if_pos htriggers]
    rw [Reporting.offerZone_counter]
    exact (ConditionUnit.count_counter _ _ _ _).trans (if_pos rfl)
  · exact (congrArg (fun r' : Reporting => r'.conditions.counter Ctr.zoneTrigger.index) (if_neg htriggers)).trans
      (if_neg htriggers).symm

/-- The touched zones tested in order: each by its own tally, the triggers counted. -/
theorem Reporting.foldl_testZone {zones : List Nat} (hnodup : zones.Nodup) (r : Reporting) :
    (∀ y, (zones.foldl (Reporting.testZone now step before) r).tally y =
        if y ∈ zones ∧ r.triggersAt step before y = true then { r.tally y with reference := (r.tally y).litres } else r.tally y)
      ∧ (zones.foldl (Reporting.testZone now step before) r).conditions.counter Ctr.zoneTrigger.index =
          (r.conditions.counter Ctr.zoneTrigger.index).risen (zones.filter (r.triggersAt step before)).length := by
  induction zones generalizing r with
  | nil => exact ⟨fun y => by simp, rfl⟩
  | cons z rest ih =>
    obtain ⟨hnew, hrest⟩ := List.nodup_cons.1 hnodup
    obtain ⟨htally, hcounter⟩ := ih hrest (r.testZone now step before z)
    have hsame (y : Nat) (hy : y ≠ z) : (r.testZone now step before z).tally y = r.tally y := by
      rw [Reporting.testZone_tally, if_neg fun h => hy h.1]
    have htriggers (y : Nat) (hy : y ≠ z) : (r.testZone now step before z).triggersAt step before y = r.triggersAt step before y := by
      unfold Reporting.triggersAt
      rw [hsame y hy]
    constructor
    · intro y
      rw [List.foldl_cons, htally]
      by_cases hy : y = z
      · rw [if_neg fun h => hnew (hy ▸ h.1), Reporting.testZone_tally]
        exact ite_of_iff ⟨fun h => ⟨hy ▸ List.mem_cons_self, hy ▸ h.2⟩, fun h => ⟨hy, hy ▸ h.2⟩⟩ _ _
      · rw [hsame y hy, htriggers y hy]
        exact ite_of_iff (and_congr_left fun _ => by simp [hy]) _ _
    · have hfilter : rest.filter ((r.testZone now step before z).triggersAt step before) = rest.filter (r.triggersAt step before) :=
        List.filter_congr fun y hy => htriggers y fun e => hnew (e ▸ hy)
      rw [List.foldl_cons, hcounter, hfilter, Reporting.testZone_counter]
      by_cases htrigger : r.triggersAt step before z = true
      · rw [if_pos htrigger, Counter.risen_rise, List.filter_cons_of_pos htrigger, List.length_cons]
      · rw [if_neg htrigger, List.filter_cons_of_neg htrigger]

end Test

/-! ## The change -/

theorem touchedZones_nodup (old new : Contribution) : (touchedZones old new).Nodup := by
  unfold touchedZones
  cases old.zone <;> cases new.zone <;> simp
  split <;> simp [*]

theorem mem_touchedZones {old new : Contribution} {z : Nat} :
    z ∈ touchedZones old new ↔ old.zone = some z ∨ new.zone = some z := by
  unfold touchedZones
  cases old.zone <;> cases new.zone <;> simp [eq_comm]
  split <;> simp [*]

/-- The trigger rule in the words of the statement (R93). -/
theorem Tally.triggers_iff (step : Nat) (u v : Tally) :
    Tally.triggers step u v = true ↔
      u.members ≠ v.members ∨ u.full ≠ v.full ∨ u.near ≠ v.near ∨ u.stale ≠ v.stale ∨ u.fallen ≠ v.fallen ∨ u.fault ≠ v.fault
        ∨ (u.litres ≠ v.litres ∧ (v.reference + step ≤ v.litres ∨ v.litres + step ≤ v.reference)) := by
  have hgap : step ≤ gapBetween v.litres v.reference ↔ v.reference + step ≤ v.litres ∨ v.litres + step ≤ v.reference := by
    unfold gapBetween
    omega
  unfold Tally.triggers Tally.sameCounts
  simp only [Bool.or_eq_true, Bool.not_eq_true', Bool.and_eq_false_iff, beq_eq_false_iff_ne, Bool.and_eq_true, bne_iff_ne,
    decide_eq_true_eq, hgap, ne_eq, or_assoc]

/-- Settles O49: the tallies moved, the touched zones tested, and nothing else. -/
theorem contributionChangesMoveAndTrigger : Obligations.ContributionChangesMoveAndTrigger := by
  intro old new s a b t taken moved triggers
  have hgrows := s.report.grows_applyChange s.now s.mgmt.params.summaryStep a b
  refine ⟨fun hsame => ?_, fun hdiffer => ?_, fun c hc => hgrows.counters c (by simpa using hc),
    State.keepsAllBut_of_leavesBut (State.leavesBut_mono (s.postChange_leaves old new) (by decide))⟩
  · have hreport : s.report.applyChange s.now s.mgmt.params.summaryStep a b = s.report := if_pos hsame
    exact congrArg (fun r => { s with report := r }) hreport
  · have hreport : t.report = (touchedZones a b).foldl (Reporting.testZone s.now s.mgmt.params.summaryStep s.report.zones)
        (s.report.moveContribution a b) := if_neg hdiffer
    have hmoved (z : Nat) : (s.report.moveContribution a b).tally z = moved z := by
      rw [Reporting.moveContribution, Reporting.tally_changeTally, Reporting.tally_changeTally]
      rfl
    obtain ⟨htally, hcounter⟩ := Reporting.foldl_testZone s.now s.mgmt.params.summaryStep s.report.zones
      (touchedZones_nodup a b) (s.report.moveContribution a b)
    have htriggers (z : Nat) : (z ∈ touchedZones a b
        ∧ (s.report.moveContribution a b).triggersAt s.mgmt.params.summaryStep s.report.zones z = true) ↔ triggers z := by
      rw [mem_touchedZones, Reporting.triggersAt, Tally.triggers_iff, hmoved]
      exact Iff.rfl
    refine ⟨fun z hz => ?_, fun z hz => ?_, fun zones hnodup hmem => ?_⟩
    · rw [hreport, htally, if_pos ((htriggers z).2 hz), hmoved]
    · rw [hreport, htally, if_neg (mt (htriggers z).1 hz), hmoved]
    · have hcount : ((touchedZones a b).filter
          ((s.report.moveContribution a b).triggersAt s.mgmt.params.summaryStep s.report.zones)).length = zones.length :=
        ((List.perm_ext_iff_of_nodup ((touchedZones_nodup a b).filter _) hnodup).2 fun z => by
          rw [List.mem_filter, hmem]
          exact htriggers z).length_eq
      have hconditions : (s.report.moveContribution a b).conditions = s.report.conditions := by
        rw [Reporting.moveContribution, Reporting.changeTally_conditions, Reporting.changeTally_conditions]
      unfold State.counter
      rw [hreport, hcounter, hcount, hconditions, Counter.risen]
      exact ite_of_iff List.length_eq_zero_iff _ _

end Sys2Proof.Machine
